-- ==== Sys2Proof/Word.lean ====
section
/-! DEFINITION. The plain types of the 2410: bytes, words, word addresses, and the numbers that name masters, slots, windows
and tags (spec/00_scope.md section 3, spec/13_formats_codes_and_pins.md). -/

namespace Sys2Proof

/-- One byte of the service link (R170). -/
abbrev Byte := BitVec 8

/-- One 32-bit word of the shared memory and of the data buffer (spec/00_scope.md section 3). -/
abbrev Word := BitVec 32

/-- The four byte enables of a write data beat (R22). -/
abbrev Enables := BitVec 4

/-- A word address at the shared memory, 0 to 16,777,215 (spec/00_scope.md section 3). -/
abbrev Addr := BitVec 24

/-- An admission number, 0 to 255, wrapping (R7). -/
abbrev Serial := BitVec 8

/-- A master, known by its master port 0 to 3 (spec/00_scope.md section 4). -/
abbrev Master := Fin 4

/-- The number of a slot record, 0 to 15 (R1). -/
abbrev SlotIx := Fin 16

/-- The number of a window table entry, 0 to 15 (R43). -/
abbrev WindowIx := Fin 16

/-- A tag, 0 to 3 (R21). -/
abbrev Tag := Fin 4

/-- The beat count that the five beats lines of a request carry, 0 to 31 (R21, spec/13 section 13.4). -/
abbrev BeatCount := Fin 32

/-- The four masters in the order of their numbers. -/
def allMasters : List Master := [0, 1, 2, 3]

/-- The sixteen slot numbers, lowest first. -/
def allSlots : List SlotIx := [0, 1, 2, 3, 4, 5, 6, 7, 8, 9, 10, 11, 12, 13, 14, 15]

/-- The sixteen window entry numbers, lowest (highest priority, R43) first. -/
def allWindows : List WindowIx := [0, 1, 2, 3, 4, 5, 6, 7, 8, 9, 10, 11, 12, 13, 14, 15]

end Sys2Proof
end

