-- ==== Sys2Proof/Syntax.lean ====
section
/-! DEFINITION. The commands of the 2410: one constructor per row of spec/opcode_table.json, with the operands of the row. The
unit is a block, not a processor: a command is an operation at one of its ports or an event that takes place inside it. -/

namespace Sys2Proof

/-- The kind of a transaction (R21). -/
inductive Kind where
  | read
  | write
  deriving DecidableEq, Repr

/-- A request as the request lines of a master port carry it (R21). Beats is the count as presented, 0 to 31, lawful or not. -/
structure Request where
  kind    : Kind
  tag     : Tag
  address : Addr
  beats   : BeatCount
  deriving DecidableEq, Repr

/-- One write data beat at a master port (R22). -/
structure DataBeat where
  word    : Word
  enables : Enables
  last    : Bool
  deriving DecidableEq, Repr

/-- An item that can complete a transaction at the memory port: a read beat with its data status code (0 GOOD, 1 CORRECTED,
2 BAD, 3 taken as BAD, R116, R191) and its last marker, or a write acknowledge, OK or FAIL (R118). -/
inductive MemoryItem where
  | readBeat (word : Word) (status : BitVec 2) (last : Bool)
  | writeAck (ok : Bool)
  deriving DecidableEq, Repr

/-- The commands, one constructor for each row of spec/opcode_table.json, in the table's order. -/
inductive Instr where
  /-- REQUEST_PRESENTATION (R21): the master of port `p` presents `r` on its request channel. -/
  | requestPresentation (p : Master) (r : Request)
  /-- ADMISSION_EVENT (R24): the head request of port `p` is taken and given a slot. -/
  | admissionEvent (p : Master)
  /-- CUTOFF_EVENT (R38): the head request of the ISOLATED master of port `p` is taken and answered CUTOFF. -/
  | cutoffEvent (p : Master)
  /-- WRITE_DATA_BEAT (R33): port `p` takes the write data beat `b`. -/
  | writeDataBeat (p : Master) (b : DataBeat)
  /-- FILLING_STALL (R37): the expiry of the timer of the FILLING slot `k`. -/
  | fillingStall (k : SlotIx)
  /-- ENTER_DELIVERING (R14): the oldest slot of master `p`, READY, enters DELIVERING. -/
  | enterDelivering (p : Master)
  /-- RESPONSE_ITEM_TAKE (R16): the master of port `p` takes the item on offer. -/
  | responseItemTake (p : Master)
  /-- DELIVERING_STALL (R17): the expiry of the timer of the DELIVERING slot `k`. -/
  | deliveringStall (k : SlotIx)
  /-- PCLR_ASSERTION (R40): the PCLR input of port `p` is asserted. -/
  | pclrAssertion (p : Master)
  /-- PCLR_RELEASE (R41): the PCLR input of port `p` is released. -/
  | pclrRelease (p : Master)
  /-- GRANT (R104): the arbiter grants the IDLE memory port to a master. -/
  | grant
  /-- ISSUE_TAKE (R114): the memory takes the issue. -/
  | issueTake
  /-- WRITE_DATA_TAKE (R114): the memory takes the write data beat on offer. -/
  | writeDataTake
  /-- READ_BEAT (R116): a read beat arrives from the memory. -/
  | readBeat (word : Word) (status : BitVec 2) (last : Bool)
  /-- WRITE_ACKNOWLEDGE (R118): a write acknowledge arrives from the memory, OK when `ok`, FAIL otherwise. -/
  | writeAcknowledge (ok : Bool)
  /-- MEMORY_TIMEOUT (R123): the expiry of the memory timer while the port is BUSY. -/
  | memoryTimeout
  /-- ABORT_ACKNOWLEDGE (R125): an abort acknowledge arrives from the memory. -/
  | abortAcknowledge
  /-- ABORT_TIMEOUT (R126): the expiry of the abort timer while the port is DRAINING. -/
  | abortTimeout
  /-- TICK (R147): TCLK completes the division in progress and a tick is given. -/
  | tick
  /-- QUIET_RECOVERY (R89): the tick that brings the QUIET count of master `m` to 256. -/
  | quietRecovery (m : Master)
  /-- WITNESS_RECOVERY (R90): the clean completion, by `item`, that brings the WITNESS count of master `m` to 128. -/
  | witnessRecovery (m : Master) (item : MemoryItem)
  /-- COMMAND_FRAME_BEGIN (R171): the first byte of a frame, `code`, not 00h, is completed. -/
  | commandFrameBegin (code : Byte)
  /-- READ_ANSWER_FRAME (R175): a frame of 00h, the bytes `dummies` and the bits `tail` of a byte not completed ends. -/
  | readAnswerFrame (dummies : List Byte) (tail : List Bool)
  /-- UNKNOWN_CODE_FRAME (R173): a command frame of the bytes `bytes` and the bits `tail` of a byte not completed ends, and is
  refused with UNKNOWN or FRAME. -/
  | unknownCodeFrame (bytes : List Byte) (tail : List Bool)
  /-- READ_STATUS (R176). -/
  | readStatus
  /-- SET_MODE (R53), with its argument byte. -/
  | setMode (mode : Byte)
  /-- READ_MASTER (R77), with its argument byte. -/
  | readMaster (master : Byte)
  /-- SET_RECOVERY (R93), with its argument bytes. -/
  | setRecovery (master mode : Byte)
  /-- CLEAR_SCORE (R75), with its argument byte. -/
  | clearScore (master : Byte)
  /-- ISOLATE (R84), with its argument byte. -/
  | isolate (master : Byte)
  /-- RESTORE (R94), with its argument byte. -/
  | restore (master : Byte)
  /-- WRITE_WINDOW (R55), with its nine argument bytes: index, live, base (3), last (3), rights. -/
  | writeWindow (index live : Byte) (base last : Addr) (rights : Byte)
  /-- READ_WINDOW (R57), with its argument byte. -/
  | readWindow (index : Byte)
  /-- SET_FILL (R50), with its four argument bytes. -/
  | setFill (fill : Word)
  /-- SET_TIMING (R150), with its argument bytes. -/
  | setTiming (divider masterTimeout memoryTimeout : Byte)
  /-- SET_DEFERRAL (R110), with its argument byte. -/
  | setDeferral (d : Byte)
  /-- READ_SETTINGS (R177). -/
  | readSettings
  /-- HOLD_MEMORY (R142). -/
  | holdMemory
  /-- RELEASE_MEMORY (R143). -/
  | releaseMemory
  /-- RESTORE_MEMORY (R140). -/
  | restoreMemory
  /-- PEEK_FAULT (R160). -/
  | peekFault
  /-- POP_FAULT (R161). -/
  | popFault
  /-- SET_RECORD_MASK (R159), with its two argument bytes. -/
  | setRecordMask (mask : BitVec 16)
  /-- READ_ALERTS (R168). -/
  | readAlerts
  /-- CLEAR_ALERTS (R166), with its argument byte. -/
  | clearAlerts (flags : Byte)
  /-- SET_ALERT_ENABLES (R167), with its argument byte. -/
  | setAlertEnables (enables : Byte)
  /-- READ_SLOT (R178), with its argument byte. -/
  | readSlot (index : Byte)
  /-- RESET_PART (R183). -/
  | resetPart
  /-- POWER_ON_RESET (R181): the end of power rising. -/
  | powerOnReset
  /-- RESET_ASSERTION (R182): the RESET input is asserted. -/
  | resetAssertion
  /-- RESET_RELEASE (R182): the RESET input is released. -/
  | resetRelease
  /-- SSEL_ASSERTION (R170): SSEL is asserted. -/
  | sselAssertion
  /-- SCLK_RISING_EDGE (R170): a rising edge of SCLK with SDIN at `sdin`. -/
  | sclkRisingEdge (sdin : Bool)
  /-- IGNORED_FRAME_END (R171): SSEL is deasserted, ending a frame that is dropped. -/
  | ignoredFrameEnd
  /-- TCLK_EDGE (R147): a rising edge of TCLK. -/
  | tclkEdge
  deriving DecidableEq, Repr

end Sys2Proof
end

