-- ==== Sys2Proof/Decode.lean ====
section
/-! DEFINITION. The command frames of the service link: their bytes, their check byte, the judgement of a frame (R172, R173) and
the reading of a frame as a command (Tables 13-1 and 13-2), with the encoder beside it; and the fixed names that the host
asks for. The opcode table gives no row any bits, so no word spells a command. -/

namespace Sys2Proof

/-! ### Bytes and bits -/

/-- The eight bits of a byte in the order the link shifts them, most significant first (R170). -/
def byteBits (b : Byte) : List Bool :=
  [b.getLsbD 7, b.getLsbD 6, b.getLsbD 5, b.getLsbD 4, b.getLsbD 3, b.getLsbD 2, b.getLsbD 1, b.getLsbD 0]

/-- The byte that eight bits give, the first of them the most significant (R170). -/
def bitsByte (bits : List Bool) : Byte :=
  bits.foldl (fun b x => b <<< (1 : Nat) ||| (if x then 1#8 else 0#8)) 0#8

/-- The bits of a run of bytes, in the order the link shifts them. -/
def bytesBits (bytes : List Byte) : List Bool := bytes.flatMap byteBits

/-- The sum of bytes modulo 256 (R172, R174). -/
def byteSum (bytes : List Byte) : Byte := bytes.foldr (· + ·) 0#8

/-- The check byte that brings the sum of a frame or of an answer to 0 modulo 256 (R172, R174). -/
def checkByte (bytes : List Byte) : Byte := -byteSum bytes

/-- A frame or an answer: its bytes followed by the check byte. -/
def withCheck (bytes : List Byte) : List Byte := bytes ++ [checkByte bytes]

/-- The three bytes of a word address, most significant first (R189). -/
def addrBytes (a : Addr) : List Byte :=
  [a.extractLsb' 16 8, a.extractLsb' 8 8, a.extractLsb' 0 8]

/-- The four bytes of a word, most significant first (R189). -/
def wordBytes (w : Word) : List Byte :=
  [w.extractLsb' 24 8, w.extractLsb' 16 8, w.extractLsb' 8 8, w.extractLsb' 0 8]

/-- The two bytes of a 16-bit field, most significant first (R189). -/
def halfBytes (h : BitVec 16) : List Byte := [h.extractLsb' 8 8, h.extractLsb' 0 8]

/-! ### Judging a frame -/

/-- The frame length that Table 13-1 gives for a command code; none for a value that names no command. -/
def frameLength (code : Byte) : Option Nat :=
  if code = 0x01#8 then some 2 else if code = 0x02#8 then some 2 else if code = 0x03#8 then some 2
  else if code = 0x04#8 then some 3 else if code = 0x05#8 then some 3 else if code = 0x06#8 then some 3
  else if code = 0x07#8 then some 2 else if code = 0x08#8 then some 2
  else if code = 0x11#8 then some 3 else if code = 0x12#8 then some 6 else if code = 0x13#8 then some 5
  else if code = 0x14#8 then some 3 else if code = 0x15#8 then some 4 else if code = 0x16#8 then some 3
  else if code = 0x17#8 then some 3 else if code = 0x18#8 then some 11
  else if code = 0x21#8 then some 4 else if code = 0x22#8 then some 3 else if code = 0x23#8 then some 3
  else if code = 0x24#8 then some 3
  else if code = 0x31#8 then some 2 else if code = 0x32#8 then some 2 else if code = 0x33#8 then some 2
  else if code = 0x3C#8 then some 2
  else none

/-- What the judgement of a command frame before its command is looked at gives (R173, lines 1 to 6). -/
inductive FrameVerdict where
  /-- Refused with FRAME. -/
  | frame
  /-- Refused with UNKNOWN. -/
  | unknown
  /-- A frame of the right length and sum for its command code. -/
  | accepted
  deriving DecidableEq, Repr

/-- R173, lines 1 to 6: the judgement of a command frame of the completed bytes `bytes` that ends with the bits `tail` of a byte
not completed. The first line that applies gives the verdict. -/
def judgeFrame (bytes : List Byte) (tail : List Bool) : FrameVerdict :=
  if tail ≠ [] then .frame
  else if 11 < bytes.length then .frame
  else match frameLength (bytes.headD 0#8) with
    | none => if byteSum bytes ≠ 0#8 then .frame else .unknown
    | some n =>
      if bytes.length ≠ n then .frame
      else if byteSum bytes ≠ 0#8 then .frame
      else .accepted

/-- A frame is a command frame when its first byte is completed and is not 00h (R171). -/
def isCommandFrame (bytes : List Byte) : Bool :=
  match bytes with
  | [] => false
  | b :: _ => b != 0#8

/-! ### The commands of the link, encoded and decoded -/

/-- The code and argument bytes of a command of the service link, without the check byte (Tables 13-1 and 13-2); none for a
command of the table that is not carried by a command frame of its own. -/
def commandBytes (i : Instr) : Option (List Byte) :=
  match i with
  | .readStatus => some [0x01#8]
  | .readSettings => some [0x02#8]
  | .readAlerts => some [0x03#8]
  | .readMaster m => some [0x04#8, m]
  | .readWindow i => some [0x05#8, i]
  | .readSlot i => some [0x06#8, i]
  | .peekFault => some [0x07#8]
  | .popFault => some [0x08#8]
  | .setMode m => some [0x11#8, m]
  | .setFill w => some (0x12#8 :: wordBytes w)
  | .setTiming k a b => some [0x13#8, k, a, b]
  | .setDeferral d => some [0x14#8, d]
  | .setRecordMask m => some (0x15#8 :: halfBytes m)
  | .setAlertEnables e => some [0x16#8, e]
  | .clearAlerts f => some [0x17#8, f]
  | .writeWindow i l b e r => some ([0x18#8, i, l] ++ addrBytes b ++ addrBytes e ++ [r])
  | .setRecovery m r => some [0x21#8, m, r]
  | .clearScore m => some [0x22#8, m]
  | .isolate m => some [0x23#8, m]
  | .restore m => some [0x24#8, m]
  | .holdMemory => some [0x31#8]
  | .releaseMemory => some [0x32#8]
  | .restoreMemory => some [0x33#8]
  | .resetPart => some [0x3C#8]
  | .requestPresentation _ _ => none
  | .admissionEvent _ => none
  | .cutoffEvent _ => none
  | .writeDataBeat _ _ => none
  | .fillingStall _ => none
  | .enterDelivering _ => none
  | .responseItemTake _ => none
  | .deliveringStall _ => none
  | .pclrAssertion _ => none
  | .pclrRelease _ => none
  | .grant => none
  | .issueTake => none
  | .writeDataTake => none
  | .readBeat _ _ _ => none
  | .writeAcknowledge _ => none
  | .memoryTimeout => none
  | .abortAcknowledge => none
  | .abortTimeout => none
  | .tick => none
  | .quietRecovery _ => none
  | .witnessRecovery _ _ => none
  | .commandFrameBegin _ => none
  | .readAnswerFrame _ _ => none
  | .unknownCodeFrame _ _ => none
  | .powerOnReset => none
  | .resetAssertion => none
  | .resetRelease => none
  | .sselAssertion => none
  | .sclkRisingEdge _ => none
  | .ignoredFrameEnd => none
  | .tclkEdge => none

/-- The whole frame of a command of the service link: code, arguments and check byte (R172). -/
def encodeFrame (i : Instr) : Option (List Byte) := (commandBytes i).map withCheck

/-- The command that a frame's code and argument bytes spell (Tables 13-1 and 13-2); the check byte is not looked at here. -/
def commandOf (bytes : List Byte) : Option Instr :=
  match bytes with
  | [] => none
  | code :: args =>
    if code = 0x01#8 then (match args with | [] => some .readStatus | _ => none)
    else if code = 0x02#8 then (match args with | [] => some .readSettings | _ => none)
    else if code = 0x03#8 then (match args with | [] => some .readAlerts | _ => none)
    else if code = 0x04#8 then (match args with | [m] => some (.readMaster m) | _ => none)
    else if code = 0x05#8 then (match args with | [i] => some (.readWindow i) | _ => none)
    else if code = 0x06#8 then (match args with | [i] => some (.readSlot i) | _ => none)
    else if code = 0x07#8 then (match args with | [] => some .peekFault | _ => none)
    else if code = 0x08#8 then (match args with | [] => some .popFault | _ => none)
    else if code = 0x11#8 then (match args with | [m] => some (.setMode m) | _ => none)
    else if code = 0x12#8 then (match args with | [a, b, c, d] => some (.setFill (a ++ b ++ c ++ d)) | _ => none)
    else if code = 0x13#8 then (match args with | [k, a, b] => some (.setTiming k a b) | _ => none)
    else if code = 0x14#8 then (match args with | [d] => some (.setDeferral d) | _ => none)
    else if code = 0x15#8 then (match args with | [a, b] => some (.setRecordMask (a ++ b)) | _ => none)
    else if code = 0x16#8 then (match args with | [e] => some (.setAlertEnables e) | _ => none)
    else if code = 0x17#8 then (match args with | [f] => some (.clearAlerts f) | _ => none)
    else if code = 0x18#8 then
      (match args with
        | [i, l, b0, b1, b2, e0, e1, e2, r] => some (.writeWindow i l (b0 ++ b1 ++ b2) (e0 ++ e1 ++ e2) r)
        | _ => none)
    else if code = 0x21#8 then (match args with | [m, r] => some (.setRecovery m r) | _ => none)
    else if code = 0x22#8 then (match args with | [m] => some (.clearScore m) | _ => none)
    else if code = 0x23#8 then (match args with | [m] => some (.isolate m) | _ => none)
    else if code = 0x24#8 then (match args with | [m] => some (.restore m) | _ => none)
    else if code = 0x31#8 then (match args with | [] => some .holdMemory | _ => none)
    else if code = 0x32#8 then (match args with | [] => some .releaseMemory | _ => none)
    else if code = 0x33#8 then (match args with | [] => some .restoreMemory | _ => none)
    else if code = 0x3C#8 then (match args with | [] => some .resetPart | _ => none)
    else none

/-- The reading of a command frame (R173): the command it carries where lines 1 to 6 accept it, none where they refuse it. -/
def decodeFrame (bytes : List Byte) (tail : List Bool) : Option Instr :=
  match judgeFrame bytes tail with
  | .accepted => commandOf bytes.dropLast
  | .frame => none
  | .unknown => none

/-- The host's fixed name. The opcode table gives no row any bits, so no word spells a command (notes/assumptions/1.md). -/
def decodeTableWord (_nbits _w : Nat) : Option Instr := none

end Sys2Proof
end

