-- ==== Sys2Proof/Config.lean ====
section
/-! DEFINITION. What the manual fixes for every 2410 (capacities, weights, thresholds), and the FREE VALUES: constants without a
body for what the manual leaves open. No proof can see a free value, so a statement about the model holds for every one. -/

namespace Sys2Proof.Config

/-- Words in the data buffer (R28). -/
def bufferWords : Nat := 64

/-- Records the fault queue holds (R154). -/
def queueCapacity : Nat := 32

/-- The largest value of the pending lost count (R154). -/
def lostMax : Nat := 65535

/-- Entries a port's write-data list holds (R22). -/
def writeListCapacity : Nat := 4

/-- The last word address of the shared memory (R25). -/
def lastAddress : Nat := 16777215

/-- The highest issue score, at which the standing is ISOLATED (R61). -/
def scoreMax : Nat := 256

/-- The lowest issue score of a LIMITED master (R61). -/
def limitedAt : Nat := 128

/-- The QUIET recovery count at which a master recovers (R89). -/
def quietTarget : Nat := 256

/-- The WITNESS recovery count at which a master recovers (R90). -/
def witnessTarget : Nat := 128

/-- The highest memory score (R133). -/
def memoryScoreMax : Nat := 255

/-- The memory score at which a SOUND memory becomes DOUBTFUL (R135). -/
def doubtfulAt : Nat := 96

/-- The highest memory score at which a DOUBTFUL memory becomes SOUND again (R135). -/
def soundAgainAt : Nat := 63

/-- The memory score at which the memory becomes FAILED (R135). -/
def failedAt : Nat := 192

/-- Completed bytes of a frame that the link keeps (R171). -/
def frameKept : Nat := 11

/-- FREE VALUE. Where several masters or ports are due together within one event and the manual says that either order may be
taken (R26, R90, R148, R182), the place in the list of those due of the one taken next, for the n-th such choice.
DESIGN CHOICE (notes/assumptions/4.md): safe, since nothing is assumed of it. -/
opaque orderChoice : Nat → Nat

/-- FREE VALUE. What SDOUT shows (not driven, low or high) after a reset at which SSEL is asserted, and after each falling edge of
SCLK in a frame that is ignored since a reset: the manual does not state it. The n-th drawing. DESIGN CHOICE
(notes/assumptions/5.md): safe, since nothing is assumed of it. -/
opaque sdoutUnstated : Nat → Option Bool

end Sys2Proof.Config
end

