-- ==== Sys2Proof/Machine/State.lean ====
section
/-! DEFINITION. The state of the 2410 as plain data: every piece of state of Table 0-1 and of the chapters that own it, the
input and output lines that are levels, and the queue of waiting commands; the reasons a step can stop (none is ever
given); and the state after a power-on reset. -/

namespace Sys2Proof.Machine

/-! ### The transaction table (Chapter 1) -/

/-- The phase of a live slot (R3). A FREE slot is no record at all. -/
inductive Phase where
  | filling
  | queued
  | issued
  | ready
  | delivering
  deriving DecidableEq, Repr

/-- The outcome of a transaction (Table 1-1). -/
inductive Result where
  | done
  | denied
  | unmapped
  | protocol
  | memfault
  | timeout
  deriving DecidableEq, Repr

/-- Why a transaction was found malformed (Table 1-1). -/
inductive ProtocolCause where
  | beats
  | range
  | tag
  | short
  | long
  deriving DecidableEq, Repr

/-- A live slot record (Table 1-1) with the contents of its reservation of the data buffer (R29). `words` are the buffer words
written so far, in beat order; `enables` are the byte enables kept with them, for an allowed write. The timer of an ISSUED
slot is the memory timer, which the memory port keeps (R2), so `timer` is used in FILLING and DELIVERING only. -/
structure Slot where
  phase      : Phase
  master     : Master
  tag        : Tag
  kind       : Kind
  address    : Option Addr
  beats      : BeatCount
  reserved   : Nat
  window     : Option WindowIx
  outcome    : Option Result
  cause      : Option ProtocolCause
  corrected  : Bool
  orphan     : Bool
  admission  : Serial
  timer      : Option Nat
  progress   : Nat
  words      : List Word
  enables    : List Enables
  deriving DecidableEq, Repr

/-! ### The master ports (Chapter 2) -/

/-- The status of a response item (Table 13-6). -/
inductive Status where
  | done
  | denied
  | unmapped
  | protocol
  | memfault
  | timeout
  | cutoff
  deriving DecidableEq, Repr

/-- A response item on offer at a master port (R15, R18, section 13.4). `word` is none for an item without data. -/
structure Item where
  tag       : Tag
  status    : Status
  word      : Option Word
  last      : Bool
  withdrawn : Bool
  corrected : Bool
  deriving DecidableEq, Repr

/-- An entry of a write-data list (R22). -/
inductive ListEntry where
  | fill (k : SlotIx)
  | discard
  deriving DecidableEq, Repr

/-- A master port (Table 2-1). `waiting` is a request that its master presented while PCLR was asserted: it waits on the request
channel and is no head request until the release (R21, R41). -/
structure Port where
  head      : Option Request
  waiting   : Option Request
  writeList : List ListEntry
  offer     : Option Item
  pclr      : Bool
  cut       : Bool
  deriving DecidableEq, Repr

/-! ### The window block (Chapter 3) -/

/-- What a master may do in a window (R43). -/
inductive Right where
  | none
  | read
  | readWrite
  deriving DecidableEq, Repr

/-- An entry of the window table (Table 3-1). -/
structure Window where
  live   : Bool
  base   : Addr
  last   : Addr
  rights : Vector Right 4
  deriving DecidableEq, Repr

/-- The mode of the unit (R51). -/
inductive Mode where
  | pass
  | guarded
  deriving DecidableEq, Repr

/-! ### The standing block (Chapters 4 and 5) -/

/-- The standing of a master (R61). -/
inductive Standing where
  | active
  | limited
  | isolated
  deriving DecidableEq, Repr

/-- A recovery mode (R88). -/
inductive RecoveryMode where
  | quiet
  | witness
  | manual
  deriving DecidableEq, Repr

/-- A confinement record (Table 4-1). -/
structure Confinement where
  score      : Nat
  standing   : Standing
  recovery   : RecoveryMode
  count      : Nat
  deferral   : Nat
  waitListed : Bool
  deriving DecidableEq, Repr

/-! ### The memory port and the memory health block (Chapters 7 and 8) -/

/-- The state of the memory port (R113). -/
inductive PortState where
  | idle
  | busy
  | draining
  | held
  | failed
  deriving DecidableEq, Repr

/-- The memory port (R113). `received`, `sawBad`, `sawCorrected` and `taken` are the beat account; `issueOffered` says that the
issue of the transaction stands on the issue lines and the memory has not taken it yet (R114). -/
structure MemPort where
  state        : PortState
  holdPending  : Bool
  abort        : Bool
  timer        : Option Nat
  received     : Nat
  sawBad       : Bool
  sawCorrected : Bool
  taken        : Nat
  issueOffered : Bool
  deriving DecidableEq, Repr

/-- The memory standing (R133). -/
inductive MemStanding where
  | sound
  | doubtful
  | failed
  deriving DecidableEq, Repr

/-- The memory health block (R133). -/
structure Health where
  score    : Nat
  standing : MemStanding
  deriving DecidableEq, Repr

/-! ### The timebase (Chapter 9) -/

/-- The timebase (R146). -/
structure Timebase where
  divider       : Nat
  count         : Nat
  masterTimeout : Nat
  memoryTimeout : Nat
  deriving DecidableEq, Repr

/-! ### The fault queue and the alert block (Chapter 10) -/

/-- The phase a STALL names (R156). -/
inductive StallPhase where
  | filling
  | delivering
  deriving DecidableEq, Repr

/-- What brought a change of a master's standing (R156). -/
inductive StandingCause where
  | score
  | service
  | quiet
  | witness
  deriving DecidableEq, Repr

/-- The cause of a MEMORY FAULT (R156). -/
inductive MemoryFaultCause where
  | bad
  | writeFail
  deriving DecidableEq, Repr

/-- What brought a change of the memory standing (R156). -/
inductive MemoryCause where
  | score
  | abortTimeout
  | service
  deriving DecidableEq, Repr

/-- The fields of a fault record beside its sequence number and lost count: one constructor for each kind of R156. -/
inductive RecordBody where
  | denied (master : Master) (tag : Tag) (kind : Kind) (address : Addr) (window : WindowIx) (score : Nat)
  | unmapped (master : Master) (tag : Tag) (kind : Kind) (address : Addr) (score : Nat)
  | protocol (master : Master) (tag : Tag) (kind : Kind) (cause : ProtocolCause) (address : Option Addr) (score : Nat)
  | stall (master : Master) (tag : Tag) (kind : Kind) (phase : StallPhase) (score : Nat)
  | standing (master : Master) (old new : Standing) (cause : StandingCause) (score : Nat) (dropped : Option Nat)
  | portCleared (master : Master) (dropped : Nat)
  | memoryTimeout (master : Master) (tag : Tag) (kind : Kind) (address : Option Addr) (orphan : Bool) (memScore : Nat)
  | memoryFault (master : Master) (tag : Tag) (kind : Kind) (address : Option Addr) (orphan : Bool) (cause : MemoryFaultCause)
      (memScore : Nat)
  | memoryCorrected (master : Master) (tag : Tag) (address : Option Addr) (orphan : Bool) (memScore : Nat)
  | memoryStanding (old new : MemStanding) (cause : MemoryCause) (memScore : Nat)
  | mode (new : Mode)
  deriving DecidableEq, Repr

/-- A fault record (R155). -/
structure FaultRecord where
  sequence : BitVec 16
  lost     : Nat
  body     : RecordBody
  deriving DecidableEq, Repr

/-- The fault queue (R154), its records oldest first. Bit n of the mask admits the record kind of code n (Table 13-2). -/
structure FaultQueue where
  records : List FaultRecord
  nextSeq : BitVec 16
  lost    : Nat
  mask    : BitVec 11
  deriving DecidableEq, Repr

/-- A setting for each of the six alert flags (R164): the flags themselves, or their enables. -/
structure AlertSet where
  queue    : Bool
  standing : Bool
  recovery : Bool
  memory   : Bool
  loss     : Bool
  held     : Bool
  deriving DecidableEq, Repr

/-- The alert block (R164, R167), with the ALERT output. -/
structure AlertBlock where
  flags   : AlertSet
  enables : AlertSet
  line    : Bool
  deriving DecidableEq, Repr

/-! ### The service link (Chapter 11) -/

/-- The status of an answer (R174). -/
inductive AnswerStatus where
  | none
  | ok
  | empty
  | state
  | range
  | unknown
  | frame
  deriving DecidableEq, Repr

/-- An answer (R174), its check byte left to the layout. -/
structure Answer where
  status : AnswerStatus
  data   : List Byte
  deriving DecidableEq, Repr

/-- The kind of the last part reset (R180). -/
inductive Origin where
  | power
  | pin
  | service
  deriving DecidableEq, Repr

/-- A frame in progress (R170, R171): the completed bytes that the link keeps, how many bytes have been completed, and the bits,
first shifted first, of a byte not completed. -/
structure Frame where
  bytes : List Byte
  count : Nat
  bits  : List Bool
  deriving DecidableEq, Repr

/-- The service link (R170). `ssel` is the level of SSEL (true: asserted) and `sclk` that of SCLK (true: high). SSEL asserted with no
frame in progress is a frame that a reset has abandoned or found under way, ignored until SSEL is deasserted (R181, R182).
`retained` is none while a command frame is under way (R171). `sdout` is none while SDOUT is not driven. `given` is the model's
own: the bytes the unit has given on SDOUT in the frame in progress, or in the last frame ended. -/
structure Link where
  ssel     : Bool
  sclk     : Bool
  frame    : Option Frame
  retained : Option Answer
  origin   : Origin
  sdout    : Option Bool
  given    : List Byte
  deriving DecidableEq, Repr

/-! ### Outcomes of a step -/

/-- The reasons a step can stop with a fault. There is none: the manual gives every event a defined effect in every state, and an
event whose conditions do not hold does not take place. -/
inductive Fault where
  deriving DecidableEq, Repr

/-- The reasons a step can be refused. -/
inductive Refusal where
  /-- Raised by exec's own arm alone, for a command without a meaning; no arm raises it in this model. Safe: the machine stops. -/
  | notModelled (mnemonic : String)
  deriving DecidableEq, Repr

/-! ### The state -/

/-- The state of the unit. `resetPin` is the level of the RESET input (true: asserted). `draws` is the model's own: how many free
values have been drawn (notes/assumptions/4.md). `pending` is the queue of waiting commands, first in, first out. -/
structure State where
  slots      : Vector (Option Slot) 16
  counters   : Vector Serial 4
  ports      : Vector Port 4
  freeWords  : Nat
  waitList   : List Master
  windows    : Vector Window 16
  mode       : Mode
  fill       : Word
  masters    : Vector Confinement 4
  pointer    : Master
  deferral   : Nat
  mem        : MemPort
  health     : Health
  time       : Timebase
  queue      : FaultQueue
  alerts     : AlertBlock
  link       : Link
  resetPin   : Bool
  draws      : Nat
  pending    : List Instr
  deriving DecidableEq, Repr

/-- A master port with nothing at it and its lines released (R19, R42). -/
def Port.empty : Port :=
  { head := none, waiting := none, writeList := [], offer := none, pclr := false, cut := false }

/-- A dead entry of the window table after a power-on reset (R58). -/
def Window.dead : Window :=
  { live := false, base := 0#24, last := 0#24, rights := Vector.replicate 4 Right.none }

/-- A confinement record after a power-on reset (R78, R97). -/
def Confinement.fresh : Confinement :=
  { score := 0, standing := .active, recovery := .quiet, count := 0, deferral := 0, waitListed := false }

/-- The memory port after a power-on reset (R131). -/
def MemPort.fresh : MemPort :=
  { state := .idle, holdPending := false, abort := false, timer := none, received := 0, sawBad := false,
    sawCorrected := false, taken := 0, issueOffered := false }

/-- No alert flag, or no enable. -/
def AlertSet.clear : AlertSet :=
  { queue := false, standing := false, recovery := false, memory := false, loss := false, held := false }

/-- The machine right after a power-on reset, with every input line released, no request presented and no command waiting. Each
value is the one the owning chapter gives: R20, R42, R58, R78, R97, R112, R131, R145, R153, R163, R169, R181; SCLK rests low between
frames (R170). -/
def State.reset : State :=
  { slots := Vector.replicate 16 none
    counters := Vector.replicate 4 0#8
    ports := Vector.replicate 4 Port.empty
    freeWords := 64
    waitList := []
    windows := Vector.replicate 16 Window.dead
    mode := .pass
    fill := 0xFFFFFFFF#32
    masters := Vector.replicate 4 Confinement.fresh
    pointer := 3
    deferral := 4
    mem := MemPort.fresh
    health := { score := 0, standing := .sound }
    time := { divider := 4, count := 0, masterTimeout := 64, memoryTimeout := 64 }
    queue := { records := [], nextSeq := 0#16, lost := 0, mask := 0x6FF#11 }
    alerts := { flags := .clear, enables := .clear, line := false }
    link := { ssel := false, sclk := false, frame := none, retained := some ⟨.none, []⟩, origin := .power, sdout := none, given := [] }
    resetPin := false
    draws := 0
    pending := [] }

end Sys2Proof.Machine
end

