-- ==== Sys2Proof/Machine/Flags.lean ====
section
/-! DEFINITION. The alert flags with the ALERT line that follows them (R164 to R167), and the handing over of records to the fault
queue (R157, R158), which sets the QUEUE and LOSS flags. -/

namespace Sys2Proof.Machine

/-! ### Alert flags and the ALERT line -/

/-- R167: whether some flag is set whose enable is on. -/
def alertLevel (flags enables : AlertSet) : Bool :=
  (flags.queue && enables.queue) || (flags.standing && enables.standing) || (flags.recovery && enables.recovery) ||
    (flags.memory && enables.memory) || (flags.loss && enables.loss) || (flags.held && enables.held)

/-- The flags are written and the ALERT line follows them in the same event (R167). -/
def State.withFlags (s : State) (f : AlertSet) : State :=
  { s with alerts := { s.alerts with flags := f, line := alertLevel f s.alerts.enables } }

/-- The enables are written and the ALERT line follows them in the same event (R167). -/
def State.withEnables (s : State) (e : AlertSet) : State :=
  { s with alerts := { s.alerts with enables := e, line := alertLevel s.alerts.flags e } }

/-- A record is stored into an empty queue (R165). -/
def State.raiseQueue (s : State) : State := s.withFlags { s.alerts.flags with queue := true }

/-- The queue has been emptied (R165). -/
def State.lowerQueue (s : State) : State := s.withFlags { s.alerts.flags with queue := false }

/-- A cause of the STANDING flag (R164). -/
def State.raiseStanding (s : State) : State := s.withFlags { s.alerts.flags with standing := true }

/-- A cause of the RECOVERY flag (R164). -/
def State.raiseRecovery (s : State) : State := s.withFlags { s.alerts.flags with recovery := true }

/-- A cause of the MEMORY flag (R164). -/
def State.raiseMemory (s : State) : State := s.withFlags { s.alerts.flags with memory := true }

/-- A cause of the LOSS flag (R164). -/
def State.raiseLoss (s : State) : State := s.withFlags { s.alerts.flags with loss := true }

/-- A cause of the HELD flag (R164). -/
def State.raiseHeld (s : State) : State := s.withFlags { s.alerts.flags with held := true }

/-! ### The fault queue -/

/-- The code of a record's kind (Table 13-5), which is also its bit in the record mask (Table 13-2). -/
def RecordBody.code (b : RecordBody) : Nat :=
  match b with
  | .denied .. => 0
  | .unmapped .. => 1
  | .protocol .. => 2
  | .stall .. => 3
  | .standing .. => 4
  | .portCleared .. => 5
  | .memoryTimeout .. => 6
  | .memoryFault .. => 7
  | .memoryCorrected .. => 8
  | .memoryStanding .. => 9
  | .mode .. => 10

/-- Whether the record mask admits the record's kind (R159). -/
def FaultQueue.admits (q : FaultQueue) (b : RecordBody) : Bool := q.mask.getLsbD b.code

/-- R157 step 4: the record is stored at the tail with the pending lost count, which returns to 0; stored into an empty queue it
sets QUEUE. -/
def State.store (s : State) (b : RecordBody) : State :=
  let s1 := { s with queue := { s.queue with
    records := s.queue.records ++ [{ sequence := s.queue.nextSeq, lost := s.queue.lost, body := b }]
    nextSeq := s.queue.nextSeq + 1#16
    lost := 0 } }
  if s.queue.records = [] then s1.raiseQueue else s1

/-- R158: the record finds the queue full; its number is used up, the loss is counted and LOSS is set. -/
def State.lose (s : State) : State :=
  { s with queue := { s.queue with
      nextSeq := s.queue.nextSeq + 1#16
      lost := min (s.queue.lost + 1) Config.lostMax } }.raiseLoss

/-- R157: a record is handed to the fault queue. -/
def State.hand (s : State) (b : RecordBody) : State :=
  if s.queue.admits b then
    if s.queue.records.length < Config.queueCapacity then s.store b else s.lose
  else s

end Sys2Proof.Machine
end

