-- ==== Sys2Proof/Machine/Operands.lean ====
section
/-! DEFINITION. The argument bytes of the commands, read as Table 13-2 assigns them. A reading is none where the byte holds a value
that the table, or the command's own rule, does not admit: the command is then refused with RANGE (R173 line 7, R191). -/

namespace Sys2Proof.Machine

/-- A master number, 0 to 3 (Table 13-2). -/
def readMasterArg (b : Byte) : Option Master :=
  if h : b.toNat < 4 then some ⟨b.toNat, h⟩ else none

/-- An entry index or slot index, 0 to 15 (Table 13-2). -/
def readIndexArg (b : Byte) : Option (Fin 16) :=
  if h : b.toNat < 16 then some ⟨b.toNat, h⟩ else none

/-- A mode: 00h PASS, 01h GUARD (Table 13-2). -/
def readModeArg (b : Byte) : Option Mode :=
  if b = 0#8 then some .pass else if b = 1#8 then some .guarded else none

/-- A recovery mode: 00h QUIET, 01h WITNESS, 02h MANUAL (Table 13-2). -/
def readRecoveryArg (b : Byte) : Option RecoveryMode :=
  if b = 0#8 then some .quiet else if b = 1#8 then some .witness else if b = 2#8 then some .manual else none

/-- A yes/no argument: 00h no, 01h yes (Table 13-2). -/
def readLiveArg (b : Byte) : Option Bool :=
  if b = 0#8 then some false else if b = 1#8 then some true else none

/-- One right: 0 NONE, 1 READ, 2 READWRITE (Table 13-2). -/
def readRight (r : BitVec 2) : Option Right :=
  if r = 0#2 then some .none else if r = 1#2 then some .read else if r = 2#2 then some .readWrite else none

/-- The rights byte: two bits for each master, master 0 in bits 1-0 (Table 13-2). -/
def readRightsArg (b : Byte) : Option (Vector Right 4) :=
  match readRight (b.extractLsb' 0 2), readRight (b.extractLsb' 2 2), readRight (b.extractLsb' 4 2),
      readRight (b.extractLsb' 6 2) with
  | some r0, some r1, some r2, some r3 => some #v[r0, r1, r2, r3]
  | _, _, _, _ => none

/-- The flags to clear, or the enables: bits 0 to 5 name the flags; a set bit 6 or 7 names none (Table 13-2). -/
def readAlertArg (b : Byte) : Option AlertSet :=
  if b.getLsbD 6 || b.getLsbD 7 then none
  else some { queue := b.getLsbD 0, standing := b.getLsbD 1, recovery := b.getLsbD 2, memory := b.getLsbD 3,
              loss := b.getLsbD 4, held := b.getLsbD 5 }

/-- The record mask: bits 0 to 10 admit the kinds; a set bit among 11 to 15 names none (Table 13-2). -/
def readMaskArg (m : BitVec 16) : Option (BitVec 11) :=
  if m.extractLsb' 11 5 = 0#5 then some (m.extractLsb' 0 11) else none

/-- The arguments of SET TIMING, checked together (R150): divider setting 0 to 8, the two timeouts 1 to 255. -/
def readTimingArgs (k a b : Byte) : Option (Nat × Nat × Nat) :=
  if k.toNat ≤ 8 ∧ 1 ≤ a.toNat ∧ 1 ≤ b.toNat then some (k.toNat, a.toNat, b.toNat) else none

/-- The deferral setting, 0 to 15 (R110). -/
def readDeferralArg (d : Byte) : Option Nat :=
  if d.toNat ≤ 15 then some d.toNat else none

/-- The fields of a window entry as WRITE WINDOW carries them, checked as R55 lists. -/
def readWindowArgs (index live : Byte) (base last : Addr) (rights : Byte) : Option (WindowIx × Window) :=
  match readIndexArg index, readLiveArg live, readRightsArg rights with
  | some i, some l, some r =>
    if base.toNat ≤ last.toNat then some (i, { live := l, base := base, last := last, rights := r }) else none
  | _, _, _ => none

end Sys2Proof.Machine
end

