-- ==== Sys2Proof/Machine/Ops.lean ====
section
/-! DEFINITION. The shared operations over the transaction table, the data buffer, the master ports and the admission wait list
(Chapters 1 and 2), and the window block's access decision (Chapter 3). -/

namespace Sys2Proof.Machine

/-! ### Reading and writing the banks of State -/

/-- Every element of a vector replaced by its image. -/
def mapBank {α : Type} {n : Nat} (f : α → α) (v : Vector α n) : Vector α n :=
  ⟨(v.toArray.toList.map f).toArray, by simp⟩

/-- The record of slot `k`; none for a FREE slot. -/
def State.slot (s : State) (k : SlotIx) : Option Slot := s.slots[k]

/-- The record of slot `k` written. -/
def State.setSlot (s : State) (k : SlotIx) (x : Option Slot) : State := { s with slots := s.slots.set k x }

/-- Master port `p`. -/
def State.port (s : State) (p : Master) : Port := s.ports[p]

/-- Master port `p` written. -/
def State.setPort (s : State) (p : Master) (x : Port) : State := { s with ports := s.ports.set p x }

/-- The confinement record of master `m`. -/
def State.conf (s : State) (m : Master) : Confinement := s.masters[m]

/-- The confinement record of master `m` written. -/
def State.setConf (s : State) (m : Master) (c : Confinement) : State := { s with masters := s.masters.set m c }

/-- The admission counter of master `m` (R7). -/
def State.counter (s : State) (m : Master) : Serial := s.counters[m]

/-- The admission counter of master `m` written. -/
def State.setCounter (s : State) (m : Master) (n : Serial) : State := { s with counters := s.counters.set m n }

/-- Entry `i` of the window table. -/
def State.window (s : State) (i : WindowIx) : Window := s.windows[i]

/-- Entry `i` of the window table written whole. -/
def State.setWindow (s : State) (i : WindowIx) (w : Window) : State := { s with windows := s.windows.set i w }

/-! ### Choices the manual leaves open -/

/-- The place, in a list of those due together, of the one taken next: a free value (notes/assumptions/4.md). -/
def State.drawPlace (s : State) (n : Nat) : Nat := Config.orderChoice s.draws % n

/-- Takes an event for each member of `due`, one after the other, in an order that the manual leaves open: with one member left
there is nothing to choose, with more the next is chosen by a free value. -/
def inFreeOrder (act : State → Master → State) : Nat → List Master → State → State
  | 0, _, s => s
  | _ + 1, [], s => s
  | _ + 1, [m], s => act s m
  | n + 1, m :: m' :: due, s =>
    let l := m :: m' :: due
    let c := l.getD (s.drawPlace l.length) m
    inFreeOrder act n (l.erase c) (act { s with draws := s.draws + 1 } c)

/-! ### The transaction table -/

/-- A slot that counts toward master `m` (R12): live, not an orphan, admitted at its port. -/
def Slot.ownedBy (x : Slot) (m : Master) : Bool := x.master == m && !x.orphan

/-- Slot `k` is live, counts toward master `m` and satisfies `q`. -/
def State.owns (s : State) (m : Master) (q : Slot → Bool) (k : SlotIx) : Bool :=
  match s.slot k with
  | some x => x.ownedBy m && q x
  | none => false

/-- The number of live non-orphan slots of master `m` (R12). -/
def State.held (s : State) (m : Master) : Nat := allSlots.countP (s.owns m fun _ => true)

/-- How many admissions of master `m`, modulo 256, have followed that of slot `k` (R7). -/
def State.age (s : State) (m : Master) (k : SlotIx) : Nat :=
  match s.slot k with
  | some x => (s.counter m - x.admission).toNat
  | none => 0

/-- The older of two slots of master `m`, by the comparison of R7. -/
def State.older (s : State) (m : Master) (best : Option SlotIx) (k : SlotIx) : Option SlotIx :=
  match best with
  | none => some k
  | some b => if s.age m b < s.age m k then some k else some b

/-- The oldest live non-orphan slot of master `m` that satisfies `q` (R7). -/
def State.oldest (s : State) (m : Master) (q : Slot → Bool) : Option SlotIx :=
  (allSlots.filter (s.owns m q)).foldl (s.older m) none

/-- The slot limit that a standing gives (R12, R61). -/
def slotLimit (st : Standing) : Nat :=
  match st with
  | .active => 4
  | .limited => 1
  | .isolated => 0

/-- R7: the counter may not run up to the admission number of the master's oldest live non-orphan slot. -/
def State.serialFree (s : State) (m : Master) : Bool :=
  match s.oldest m fun _ => true with
  | none => true
  | some k =>
    match s.slot k with
    | none => true
    | some x => s.counter m + 1#8 != x.admission

/-- R12: master `m` is under its slot limit. A line of the table of R74 has a LIMITED master at 250 that still holds a stalling slot
admitted first for a DENIED read; R12, R23 and R71 bar that admission at limit 1, and are followed (notes/assumptions/17.md). -/
def State.underLimit (s : State) (m : Master) : Bool :=
  decide (s.held m < slotLimit (s.conf m).standing) && s.serialFree m

/-- The lowest-numbered FREE slot (R4). -/
def State.lowestFree (s : State) : Option SlotIx := allSlots.find? fun k => (s.slot k).isNone

/-- The number of FREE slots (R176). -/
def State.freeSlots (s : State) : Nat := allSlots.countP fun k => (s.slot k).isNone

/-- R6: slot `k` is freed and its reserved words return to the data buffer. -/
def State.freeSlot (s : State) (k : SlotIx) : State :=
  match s.slot k with
  | none => s
  | some x => { s.setSlot k none with freeWords := s.freeWords + x.reserved }

/-- R9: a live non-orphan slot of master `m` carries tag `t`. -/
def State.tagInUse (s : State) (m : Master) (t : Tag) : Bool := allSlots.any (s.owns m fun x => x.tag == t)

/-- The slot in phase ISSUED (R3). -/
def State.issuedIx (s : State) : Option SlotIx :=
  allSlots.find? fun k =>
    match s.slot k with
    | some x => x.phase == .issued
    | none => false

/-- The ISSUED slot with its record. -/
def State.issued (s : State) : Option (SlotIx × Slot) :=
  match s.issuedIx with
  | none => none
  | some k => (s.slot k).map fun x => (k, x)

/-! ### Responses -/

/-- The status that an outcome gives a response (R15). -/
def Result.status (r : Result) : Status :=
  match r with
  | .done => .done
  | .denied => .denied
  | .unmapped => .unmapped
  | .protocol => .protocol
  | .memfault => .memfault
  | .timeout => .timeout

/-- R15: a response carries data when it answers a read that is not PROTOCOL. -/
def Slot.carriesData (x : Slot) (r : Result) : Bool := x.kind == .read && r != .protocol

/-- The item of place `i` (from 0) in the run of items that answers slot `x` with outcome `r` (R15). -/
def Slot.item (x : Slot) (r : Result) (i : Nat) : Item :=
  if x.carriesData r then
    { tag := x.tag, status := r.status, word := x.words[i]?, last := decide (x.beats.val ≤ i + 1), withdrawn := false,
      corrected := r == .done && x.corrected }
  else
    { tag := x.tag, status := r.status, word := none, last := true, withdrawn := false, corrected := false }

/-- The item belongs to the response of a slot: it is neither a withdrawn item nor a CUTOFF answer (R14, R18). -/
def Item.ofSlot (i : Item) : Bool := !i.withdrawn && i.status != .cutoff

/-- R18: the item on offer of a response that is stopped is marked withdrawn and given the last marker; a withdrawn item or a
CUTOFF answer on offer stays as it is. -/
def Item.withdraw (i : Item) : Item := if i.ofSlot then { i with withdrawn := true, last := true } else i

/-- The slot of master `m` in DELIVERING. -/
def State.deliveringIx (s : State) (m : Master) : Option SlotIx :=
  allSlots.find? (s.owns m fun x => x.phase == .delivering)

/-- The response channel of port `p` offers the next item of the slot in DELIVERING, if there is one, and else nothing (R14). -/
def State.offerNext (s : State) (p : Master) : State :=
  let item :=
    match s.deliveringIx p with
    | none => none
    | some k =>
      match s.slot k with
      | none => none
      | some x => x.outcome.map fun r => x.item r x.progress
  s.setPort p { s.port p with offer := item }

/-! ### Dropping a master's slots at an isolation or port clear (R10, R80) -/

/-- The slot is freed at the isolation or port clear of master `m`. -/
def Slot.droppedWith (x : Slot) (m : Master) : Bool := x.ownedBy m && x.phase != .issued

/-- What becomes of a slot at the isolation or port clear of master `m`: freed, made an orphan when ISSUED, or not touched. -/
def dropOne (m : Master) (o : Option Slot) : Option Slot :=
  match o with
  | none => none
  | some x => if x.droppedWith m then none else if x.ownedBy m then some { x with orphan := true } else some x

/-- The number of slots freed at the isolation or port clear of master `m`; an orphan is not counted (R80). -/
def State.dropCount (s : State) (m : Master) : Nat := allSlots.countP (s.owns m fun x => x.phase != .issued)

/-- The buffer words returned at the isolation or port clear of master `m`. -/
def State.dropWords (s : State) (m : Master) : Nat :=
  (allSlots.map fun k =>
    match s.slot k with
    | some x => if x.droppedWith m then x.reserved else 0
    | none => 0).sum

/-- R10: the slots of master `m` are freed, and its ISSUED slot becomes an orphan. -/
def State.dropSlots (s : State) (m : Master) : State :=
  { s with slots := mapBank (dropOne m) s.slots, freeWords := s.freeWords + s.dropWords m }

/-- R39: a fill entry becomes a discard entry in its place. -/
def ListEntry.toDiscard (_e : ListEntry) : ListEntry := .discard

/-- R37: the fill entry that names slot `k` becomes a discard entry in its place. -/
def ListEntry.unfill (k : SlotIx) (e : ListEntry) : ListEntry := if e = .fill k then .discard else e

/-! ### Admission: form, access decision and need (R25, R44, R45) -/

/-- R25: the first cause for which the form of a request of master `p` is malformed. -/
def State.formCause (s : State) (p : Master) (r : Request) : Option ProtocolCause :=
  if r.beats.val < 1 ∨ 16 < r.beats.val then some .beats
  else if Config.lastAddress < r.address.toNat + r.beats.val - 1 then some .range
  else if s.tagInUse p r.tag then some .tag
  else none

/-- R25: the buffer words that the head request `r` of port `p` reserves at admission. -/
def State.need (s : State) (p : Master) (r : Request) : Nat :=
  match s.formCause p r with
  | some _ => 0
  | none => r.beats.val

/-- R44: the lowest-numbered live entry that contains the start address. -/
def State.matchWindow (s : State) (a : Addr) : Option WindowIx :=
  allWindows.find? fun i =>
    (s.window i).live && decide ((s.window i).base.toNat ≤ a.toNat) && decide (a.toNat ≤ (s.window i).last.toNat)

/-- What the admission event decides of a request at its steps 1 and 2 (R24). -/
inductive Decision where
  | protocol (c : ProtocolCause)
  | denied (w : WindowIx)
  | unmapped
  | allowed (w : Option WindowIx)
  deriving DecidableEq, Repr

/-- R45: the access decision for a well-formed request of master `p` in GUARD mode. -/
def State.access (s : State) (p : Master) (r : Request) : Decision :=
  match s.matchWindow r.address with
  | none => .unmapped
  | some i =>
    let w := s.window i
    if w.last.toNat < r.address.toNat + r.beats.val - 1 then .denied i
    else
      match w.rights[p], r.kind with
      | .none, _ => .denied i
      | .read, .write => .denied i
      | .read, .read => .allowed (some i)
      | .readWrite, _ => .allowed (some i)

/-- Steps 1 and 2 of the admission event (R24). -/
def State.decideRequest (s : State) (p : Master) (r : Request) : Decision :=
  match s.formCause p r with
  | some c => .protocol c
  | none =>
    match s.mode with
    | .guarded => s.access p r
    | .pass => .allowed none

/-! ### The conditions of admission and the wait list (R23, R30 to R32) -/

/-- Conditions 1 to 7 of R23 for port `p`; the head request when they hold. -/
def State.ready17 (s : State) (p : Master) : Option Request :=
  match (s.port p).head with
  | none => none
  | some r =>
    if !s.resetPin && !(s.port p).pclr && (s.conf p).standing != .isolated && s.lowestFree.isSome && s.underLimit p
        && (r.kind == .read || decide ((s.port p).writeList.length < Config.writeListCapacity)) then some r
    else none

/-- Condition 9 of R23: the wait list is empty, or port `p` is at its head. -/
def State.atHead (s : State) (p : Master) : Bool :=
  match s.waitList with
  | [] => true
  | q :: _ => q == p

/-- Conditions 8 and 9 of R23 for the request `r` of port `p`. -/
def State.ready89 (s : State) (p : Master) (r : Request) : Bool :=
  decide (s.need p r ≤ s.freeWords) && s.atHead p

/-- R23: the head request of port `p` for which the admission event is due; none when it is not. -/
def State.admissible (s : State) (p : Master) : Option Request :=
  match s.ready17 p with
  | none => none
  | some r => if s.ready89 p r then some r else none

/-- R30: port `p` is to join the wait list: conditions 1 to 7 hold, 8 or 9 fails, and it is not on the list. -/
def State.mustJoin (s : State) (p : Master) : Bool :=
  match s.ready17 p with
  | none => false
  | some r => !s.ready89 p r && !s.waitList.contains p

/-- Port `p` joins the tail of the wait list, and the wait-listed field of its master follows (R30, R60). -/
def State.joinWaitList (s : State) (p : Master) : State :=
  { s with waitList := s.waitList ++ [p] }.setConf p { s.conf p with waitListed := true }

/-- Port `p` leaves the wait list; the ports behind it keep their order (R32). -/
def State.leaveWaitList (s : State) (p : Master) : State :=
  { s with waitList := s.waitList.filter (· != p) }.setConf p { s.conf p with waitListed := false }

/-- One port that is to join the wait list joins it. Where several are, either order may be taken (R26). -/
def State.joinOne (s : State) : State :=
  match allMasters.filter s.mustJoin with
  | [] => s
  | [p] => s.joinWaitList p
  | p :: q :: l =>
    { s with draws := s.draws + 1 }.joinWaitList ((p :: q :: l).getD (s.drawPlace (l.length + 2)) p)

/-- R30: every port that is to join the wait list at this event joins it. A port whose request would fit joins behind those
already there (R31), so a joining can call for another; four ports can call for no more than four. -/
def State.joinWaiters (s : State) : State := s.joinOne.joinOne.joinOne.joinOne

end Sys2Proof.Machine
end

