-- ==== Sys2Proof/Machine/Standing.lean ====
section
/-! DEFINITION. The shared operations of the standing block: score changes and changes of standing (Chapter 4), the isolation event,
recovery and its counts (Chapter 5), and the port clear (section 2.7). -/

namespace Sys2Proof.Machine

/-- R61: the standing that a score gives. -/
def standingOf (score : Nat) : Standing :=
  if score < Config.limitedAt then .active else if score < Config.scoreMax then .limited else .isolated

/-- The isolation event of master `m` (R79 to R82). Its slots are dropped and its ISSUED slot becomes an orphan; its port leaves
the wait list, turns its fill entries into discard entries and withdraws the item on offer; its record takes the values of
R79 and CUT is asserted; the STANDING record is handed over and the STANDING flag set. -/
def State.isolateMaster (s : State) (m : Master) (cause : StandingCause) : State :=
  let old := (s.conf m).standing
  let dropped := s.dropCount m
  let s1 := (s.dropSlots m).leaveWaitList m
  let p := s1.port m
  let s2 := s1.setPort m
    { p with writeList := p.writeList.map ListEntry.toDiscard, offer := p.offer.map Item.withdraw, cut := true }
  let s3 := s2.setConf m { s2.conf m with score := Config.scoreMax, standing := .isolated, count := 0, deferral := 0 }
  (s3.hand (.standing m old .isolated cause Config.scoreMax (some dropped))).raiseStanding

/-- R62, R67 to R69: the new score of master `m` is written with the standing it gives, and a change of standing is carried out. -/
def State.writeScore (s : State) (m : Master) (score : Nat) : State :=
  let c := s.conf m
  match c.standing, standingOf score with
  | .active, .limited =>
    ((s.setConf m { c with score := score, standing := .limited }).hand
      (.standing m .active .limited .score score none)).raiseStanding
  | .limited, .active =>
    ((s.setConf m { c with score := score, standing := .active, deferral := 0 }).hand
      (.standing m .limited .active .score score none)).raiseRecovery
  | .active, .isolated => s.isolateMaster m .score
  | .limited, .isolated => s.isolateMaster m .score
  | .active, .active => s.setConf m { c with score := score }
  | .limited, .limited => s.setConf m { c with score := score }
  | .isolated, _ => s

/-- The issue score of master `m` after a fault of weight `w` (R52, R64): unchanged in PASS mode, and while ISOLATED (R66). -/
def State.faultScore (s : State) (m : Master) (w : Nat) : Nat :=
  match s.mode, (s.conf m).standing with
  | .guarded, .active => min Config.scoreMax ((s.conf m).score + w)
  | .guarded, .limited => min Config.scoreMax ((s.conf m).score + w)
  | .guarded, .isolated => (s.conf m).score
  | .pass, _ => (s.conf m).score

/-- A fault of master `m` of weight `w` is handed over (R27, R62, R70): first its record, which carries the score after the
change, then the change of the score with its change of standing, in GUARD mode. -/
def State.fault (s : State) (m : Master) (w : Nat) (record : Nat → RecordBody) : State :=
  let score := s.faultScore m w
  let s1 := s.hand (record score)
  match s.mode with
  | .guarded => s1.writeScore m score
  | .pass => s1

/-- R65: a clean completion of master `m`, applied in GUARD mode. -/
def State.cleanCompletion (s : State) (m : Master) : State :=
  match s.mode, (s.conf m).standing with
  | .guarded, .active => s.writeScore m ((s.conf m).score - 1)
  | .guarded, .limited => s.writeScore m ((s.conf m).score - 1)
  | .guarded, .isolated => s
  | .pass, _ => s

/-- The recovery event of master `m` (R92): its record takes the values of R92, CUT is released, the STANDING record is handed
over and the RECOVERY flag set. Its port is not touched beyond this. -/
def State.recover (s : State) (m : Master) (cause : StandingCause) : State :=
  let s1 := s.setConf m { s.conf m with score := 0, standing := .active, count := 0, deferral := 0 }
  let s2 := s1.setPort m { s1.port m with cut := false }
  (s2.hand (.standing m .isolated .active cause 0 none)).raiseRecovery

/-- An ISOLATED master under recovery mode `mode`. -/
def Confinement.recovering (c : Confinement) (mode : RecoveryMode) : Bool :=
  c.standing == .isolated && c.recovery == mode

/-- The masters under recovery mode `mode` whose count has reached `target`. -/
def State.recovered (s : State) (mode : RecoveryMode) (target : Nat) : List Master :=
  allMasters.filter fun m => (s.conf m).recovering mode && decide (target ≤ (s.conf m).count)

/-- R90: a clean completion of a non-orphan transaction raises the count of an ISOLATED master in WITNESS by 1. -/
def witnessCount (c : Confinement) : Confinement :=
  if c.recovering .witness then { c with count := c.count + 1 } else c

/-- R90: the witness counts advance at a clean completion, and each master whose count reaches 128 recovers within the same
event, several of them in either order. -/
def State.witness (s : State) : State :=
  let s1 := { s with masters := mapBank witnessCount s.masters }
  inFreeOrder (fun s m => s.recover m .witness) 4 (s1.recovered .witness Config.witnessTarget) s1

/-- The port clear of port `p` (R40): its master's slots are dropped and its ISSUED slot becomes an orphan; the head request, the
write-data list and the response channel are emptied; the port leaves the wait list; a PORT CLEARED record is handed over. -/
def State.portClear (s : State) (p : Master) : State :=
  let dropped := s.dropCount p
  let s1 := (s.dropSlots p).leaveWaitList p
  let s2 := s1.setPort p { s1.port p with head := none, writeList := [], offer := none }
  s2.hand (.portCleared p dropped)

end Sys2Proof.Machine
end

