-- ==== Sys2Proof/Machine/Memory.lean ====
section
/-! DEFINITION. The memory arbiter (Chapter 6), the memory port (Chapter 7) and the memory health block (Chapter 8): their shared
operations, and the meanings of the commands that the arbiter, the memory and the memory timer give. -/

namespace Sys2Proof.Machine

/-! ### The memory arbiter (Chapter 6) -/

/-- R99: the candidate of master `m` is its oldest QUEUED slot. -/
def State.candidate (s : State) (m : Master) : Option SlotIx := s.oldest m fun x => x.phase == .queued

/-- R102: master `m` has a candidate and is eligible. -/
def State.eligible (s : State) (m : Master) : Bool :=
  (s.candidate m).isSome &&
    ((s.conf m).deferral == 0 || !allMasters.any fun n => (s.candidate n).isSome && (s.conf n).deferral == 0)

/-- R103: the winner is the first eligible master in the order that starts after the round-robin pointer. -/
def State.winner (s : State) : Option Master :=
  [s.pointer + 1, s.pointer + 2, s.pointer + 3, s.pointer].find? s.eligible

/-- R104: the deferral counts at a grant to the master `w`. A LIMITED winner's count is set to D, and every other master's count
above 0 falls by 1. -/
def State.deferAt (s : State) (w : Master) : State :=
  allMasters.foldl
    (fun s m =>
      let c := s.conf m
      if m = w then
        match c.standing with
        | .limited => s.setConf m { c with deferral := s.deferral }
        | .active => s
        | .isolated => s
      else s.setConf m { c with deferral := c.deferral - 1 })
    s

/-- R114: the memory port issues slot `k`, whose record is `x`: the slot goes to ISSUED, the port becomes BUSY with its beat
account cleared, its memory timer set from the memory timeout in force and its issue on offer. -/
def State.issue (s : State) (k : SlotIx) (x : Slot) : State :=
  { s.setSlot k (some { x with phase := .issued }) with
    mem := { MemPort.fresh with state := .busy, timer := some s.time.memoryTimeout, issueOffered := true } }

/-- The issue that the port offers to the memory, while the memory has not taken it: kind, start address and beats (R114). -/
def State.issueLines (s : State) : Option (Kind × Option Addr × BeatCount) :=
  if s.mem.issueOffered then s.issued.map fun kx => (kx.2.kind, kx.2.address, kx.2.beats) else none

/-- R114: a write is at the memory and some of its data beats have not been taken: the port offers the next of them. -/
def State.offersWriteData (s : State) : Bool :=
  match s.mem.state, s.issued with
  | .busy, some (_, x) => x.kind == .write && decide (s.mem.taken < x.beats.val)
  | _, _ => false

/-- The write data beat that the port offers to the memory: its word, its byte enables and its last marker (R114). -/
def State.writeDataLines (s : State) : Option (Option Word × Option Enables × Bool) :=
  if s.offersWriteData then
    s.issued.map fun kx =>
      (kx.2.words[s.mem.taken]?, kx.2.enables[s.mem.taken]?, decide (kx.2.beats.val ≤ s.mem.taken + 1))
  else none

/-! ### The memory health block (Chapter 8) -/

/-- The class of a completion or timeout (R133). -/
inductive HealthClass where
  | clean
  | corrected
  | faulted
  | timeout
  deriving DecidableEq, Repr

/-- R133: the memory score after a class. -/
def classScore (c : HealthClass) (score : Nat) : Nat :=
  match c with
  | .clean => score - 1
  | .corrected => min Config.memoryScoreMax (score + 1)
  | .faulted => min Config.memoryScoreMax (score + 16)
  | .timeout => min Config.memoryScoreMax (score + 32)

/-- R135: the memory standing after a change of the memory score. -/
def memStandingAfter (old : MemStanding) (score : Nat) : MemStanding :=
  match old with
  | .failed => .failed
  | .sound =>
    if Config.failedAt ≤ score then .failed else if Config.doubtfulAt ≤ score then .doubtful else .sound
  | .doubtful =>
    if Config.failedAt ≤ score then .failed else if score ≤ Config.soundAgainAt then .sound else .doubtful

/-- R137: what the failure of the memory does to a slot: a QUEUED slot goes to READY with outcome MEMFAULT, a read with the fill
word in every word of its reservation. -/
def failOne (fill : Word) (o : Option Slot) : Option Slot :=
  o.map fun x =>
    if x.phase = .queued then
      { x with phase := .ready, outcome := some .memfault,
               words := if x.kind = .read then List.replicate x.reserved fill else x.words }
    else x

/-- R137: every QUEUED slot goes to READY with outcome MEMFAULT. -/
def State.failQueued (s : State) : State := { s with slots := mapBank (failOne s.fill) s.slots }

/-- R136, R137: a change of the memory standing from `old` to the standing now held: its record and its flag, and the failure
where the change is to FAILED. -/
def State.memStandingChanged (s : State) (old : MemStanding) (cause : MemoryCause) : State :=
  let s1 := (s.hand (.memoryStanding old s.health.standing cause s.health.score)).raiseMemory
  if s.health.standing = .failed then s1.failQueued else s1

/-- R134: a class is applied within its event: the score, the event's own memory record, the standing, the change of standing. -/
def State.scoreMemory (s : State) (c : HealthClass) (record : Nat → Option RecordBody) : State :=
  let old := s.health.standing
  let score := classScore c s.health.score
  let new := memStandingAfter old score
  let s1 := { s with health := { s.health with score := score } }
  let s2 :=
    match record score with
    | none => s1
    | some b => s1.hand b
  let s3 := { s2 with health := { s2.health with standing := new } }
  if new = old then s3 else s3.memStandingChanged old .score

/-! ### The completion event (section 7.4) -/

/-- R122: the end of a completion event: the port leaves BUSY for FAILED, HELD or IDLE. -/
def State.leaveBusy (s : State) : State :=
  if s.health.standing = .failed then { s with mem := { MemPort.fresh with state := .failed } }
  else if s.mem.holdPending then { s with mem := { MemPort.fresh with state := .held } }.raiseHeld
  else { s with mem := MemPort.fresh }

/-- R121 step 1: the ISSUED slot `k`, with record `x`, goes to READY with its outcome, or is freed where it is an orphan (R86). -/
def State.endSlot (s : State) (k : SlotIx) (x : Slot) (r : Result) (corrected : Bool) : State :=
  if x.orphan then s.freeSlot k
  else s.setSlot k (some { x with phase := .ready, outcome := some r, corrected := corrected, timer := none })

/-- The completion event (R121): the slot, the memory health block, the standing block for outcome DONE of a slot that is no
orphan, and the port, in this order. A port that the event lets meet R30 then joins the wait list. -/
def State.completion (s : State) (k : SlotIx) (x : Slot) (r : Result) (corrected : Bool) (c : HealthClass)
    (record : Nat → Option RecordBody) : State :=
  let s1 := (s.endSlot k x r corrected).scoreMemory c record
  let s2 := if r = .done ∧ x.orphan = false then (s1.cleanCompletion x.master).witness else s1
  s2.leaveBusy.joinWaiters

/-! ### Items from the memory (section 7.3) -/

/-- A data status code that counts as BAD: 2, and 3 by R191. -/
def badStatus (status : BitVec 2) : Bool := status == 2#2 || status == 3#2

/-- R116: a read beat that arrives while fewer than the declared beats have been received is written into the reservation and
noted in the beat account; a later one is discarded. -/
def State.storeBeat (s : State) (k : SlotIx) (x : Slot) (word : Word) (status : BitVec 2) : State :=
  if s.mem.received < x.beats.val then
    { s.setSlot k (some { x with words := x.words ++ [word], progress := s.mem.received + 1 }) with
      mem := { s.mem with received := s.mem.received + 1, sawBad := s.mem.sawBad || badStatus status,
                          sawCorrected := s.mem.sawCorrected || status == 1#2 } }
  else s

/-- The record of a read completion (R119): none for a clean one. -/
def readRecord (x : Slot) (bad corrected : Bool) (memScore : Nat) : Option RecordBody :=
  if bad then some (.memoryFault x.master x.tag x.kind x.address x.orphan .bad memScore)
  else if corrected then some (.memoryCorrected x.master x.tag x.address x.orphan memScore)
  else none

/-- R117, R119: the completion of the read in slot `k`. Each beat the memory did not send counts as BAD, and its word of the
reservation takes the fill word. -/
def State.completeRead (s : State) (k : SlotIx) (x : Slot) : State :=
  let missing := x.beats.val - s.mem.received
  let x1 := { x with words := x.words ++ List.replicate missing s.fill }
  let bad := s.mem.sawBad || decide (0 < missing)
  let corrected := s.mem.sawCorrected
  s.completion k x1 (if bad then .memfault else .done) corrected
    (if bad then .faulted else if corrected then .corrected else .clean) (readRecord x bad corrected)

/-- A read beat arrives from the memory (R116, R120, R124, R130). -/
def State.readBeatArrives (s : State) (word : Word) (status : BitVec 2) (last : Bool) : State :=
  match s.mem.state, s.issued with
  | .busy, some (k, x) =>
    match x.kind with
    | .write => s
    | .read =>
      let s1 := s.storeBeat k x word status
      if last then
        match s1.slot k with
        | some x1 => s1.completeRead k x1
        | none => s1
      else s1
  | _, _ => s

/-- The record of a write completion (R119): none for a clean one. -/
def writeRecord (x : Slot) (fail : Bool) (memScore : Nat) : Option RecordBody :=
  if fail then some (.memoryFault x.master x.tag x.kind x.address x.orphan .writeFail memScore) else none

/-- A write acknowledge arrives from the memory (R118 to R120, R124, R130). One that comes before the memory has taken every data
beat is taken as a FAIL. -/
def State.writeAckArrives (s : State) (ok : Bool) : State :=
  match s.mem.state, s.issued with
  | .busy, some (k, x) =>
    match x.kind with
    | .read => s
    | .write =>
      let fail := !ok || decide (s.mem.taken < x.beats.val)
      s.completion k x (if fail then .memfault else .done) false (if fail then .faulted else .clean) (writeRecord x fail)
  | _, _ => s

/-- An item that can complete a transaction arrives from the memory. -/
def State.itemArrives (s : State) (item : MemoryItem) : State :=
  match item with
  | .readBeat word status last => s.readBeatArrives word status last
  | .writeAck ok => s.writeAckArrives ok

/-- The item is the completion, with outcome DONE, of a transaction that is no orphan (R90, R119). -/
def State.completesClean (s : State) (item : MemoryItem) : Bool :=
  match s.mem.state, s.issued, item with
  | .busy, some (_, x), .readBeat _ status last =>
    x.kind == .read && !x.orphan && last && !s.mem.sawBad && decide (x.beats.val ≤ s.mem.received + 1) &&
      (decide (x.beats.val ≤ s.mem.received) || !badStatus status)
  | .busy, some (_, x), .writeAck ok => x.kind == .write && !x.orphan && ok && decide (x.beats.val ≤ s.mem.taken)
  | _, _, _ => false

/-! ### The meanings -/

/-- GRANT (R104): with the port IDLE and a candidate waiting, the winner's candidate is issued, the deferral counts change and the
pointer is set to the winner. -/
def execGrant (s : State) : Host.Outcome State Fault Refusal :=
  match s.mem.state, s.winner with
  | .idle, some w =>
    match s.candidate w with
    | none => .next s
    | some k =>
      match s.slot k with
      | none => .next s
      | some x => .next { (s.issue k x).deferAt w with pointer := w }
  | _, _ => .next s

/-- ISSUE_TAKE (R114): the memory takes the issue on offer. The memory timer is not restarted. -/
def execIssueTake (s : State) : Host.Outcome State Fault Refusal :=
  .next { s with mem := { s.mem with issueOffered := false } }

/-- WRITE_DATA_TAKE (R114): the memory takes the write data beat on offer, the port counts it and offers the next. -/
def execWriteDataTake (s : State) : Host.Outcome State Fault Refusal :=
  if s.offersWriteData then .next { s with mem := { s.mem with taken := s.mem.taken + 1 } } else .next s

/-- READ_BEAT (R116). -/
def execReadBeat (word : Word) (status : BitVec 2) (last : Bool) (s : State) : Host.Outcome State Fault Refusal :=
  .next (s.readBeatArrives word status last)

/-- WRITE_ACKNOWLEDGE (R118). -/
def execWriteAcknowledge (ok : Bool) (s : State) : Host.Outcome State Fault Refusal :=
  .next (s.writeAckArrives ok)

/-- R123 step 1: the slot at a memory timeout: an orphan is freed; another goes to READY with outcome TIMEOUT, a read with the fill
word in every word of its reservation. -/
def State.timeoutSlot (s : State) (k : SlotIx) (x : Slot) : State :=
  if x.orphan then s.freeSlot k
  else s.setSlot k (some { x with phase := .ready, outcome := some .timeout, timer := none,
                                  words := if x.kind = .read then List.replicate x.reserved s.fill else x.words })

/-- R123 step 3: the port at a memory timeout. -/
def State.timeoutPort (s : State) : State :=
  if s.health.standing = .failed then { s with mem := { MemPort.fresh with state := .failed, abort := true } }
  else
    { s with mem := { MemPort.fresh with state := .draining, abort := true, timer := some s.time.memoryTimeout,
                                         holdPending := s.mem.holdPending } }

/-- MEMORY_TIMEOUT (R123): the memory timer has expired while the port is BUSY. -/
def execMemoryTimeout (s : State) : Host.Outcome State Fault Refusal :=
  match s.mem.state, s.mem.timer, s.issued with
  | .busy, some 0, some (k, x) =>
    .next ((s.timeoutSlot k x).scoreMemory .timeout fun n =>
      some (.memoryTimeout x.master x.tag x.kind x.address x.orphan n)).timeoutPort.joinWaiters
  | _, _, _ => .next s

/-- ABORT_ACKNOWLEDGE (R125): ends the abort at a DRAINING port, which becomes HELD where a hold is pending and IDLE otherwise. In
every other state the item is discarded (R120, R130). -/
def execAbortAcknowledge (s : State) : Host.Outcome State Fault Refusal :=
  match s.mem.state with
  | .draining =>
    if s.mem.holdPending then .next { s with mem := { MemPort.fresh with state := .held } }.raiseHeld
    else .next { s with mem := MemPort.fresh }
  | .idle => .next s
  | .busy => .next s
  | .held => .next s
  | .failed => .next s

/-- ABORT_TIMEOUT (R126, R137): the abort timer has expired while the port is DRAINING. -/
def execAbortTimeout (s : State) : Host.Outcome State Fault Refusal :=
  match s.mem.state, s.mem.timer with
  | .draining, some 0 =>
    .next ({ s with
      mem := { MemPort.fresh with state := .failed, abort := true }
      health := { score := Config.memoryScoreMax, standing := .failed } }.memStandingChanged s.health.standing .abortTimeout)
  | _, _ => .next s

end Sys2Proof.Machine
end

