-- ==== Sys2Proof/Machine/Formats.lean ====
section
/-! DEFINITION. The layouts of Chapter 13: codes, answers, fault records, and the data of the reading commands. -/

namespace Sys2Proof.Machine

/-! ### Codes (sections 13.1, 13.2 and Table 13-4a) -/

/-- A number in one byte (R189). -/
def numByte (n : Nat) : Byte := BitVec.ofNat 8 n

/-- A number in two bytes, most significant first (R189). -/
def numHalf (n : Nat) : List Byte := halfBytes (BitVec.ofNat 16 n)

/-- The marker of an absent one-byte field (R190). -/
def absentByte : Byte := 0xFF#8

/-- A yes/no field (R189). -/
def boolByte (b : Bool) : Byte := if b then 1#8 else 0#8

/-- A field that may be absent, in one byte (R190). -/
def optByte {α : Type} (code : α → Byte) (x : Option α) : Byte :=
  match x with
  | none => absentByte
  | some v => code v

/-- The status codes of an answer (section 13.2). -/
def AnswerStatus.code (a : AnswerStatus) : Byte :=
  match a with
  | .none => 0x00#8
  | .ok => 0x01#8
  | .empty => 0x02#8
  | .state => 0x03#8
  | .range => 0x04#8
  | .unknown => 0x05#8
  | .frame => 0x06#8

/-- The mode codes (Table 13-2). -/
def Mode.code (m : Mode) : Byte :=
  match m with
  | .pass => 0x00#8
  | .guarded => 0x01#8

/-- The recovery mode codes (Table 13-2). -/
def RecoveryMode.code (m : RecoveryMode) : Byte :=
  match m with
  | .quiet => 0x00#8
  | .witness => 0x01#8
  | .manual => 0x02#8

/-- The reset origin codes. -/
def Origin.code (o : Origin) : Byte :=
  match o with
  | .power => 0x00#8
  | .pin => 0x01#8
  | .service => 0x02#8

/-- The memory port state codes. -/
def PortState.code (p : PortState) : Byte :=
  match p with
  | .idle => 0x00#8
  | .busy => 0x01#8
  | .draining => 0x02#8
  | .held => 0x03#8
  | .failed => 0x04#8

/-- The memory standing codes. -/
def MemStanding.code (m : MemStanding) : Byte :=
  match m with
  | .sound => 0x00#8
  | .doubtful => 0x01#8
  | .failed => 0x02#8

/-- The master standing codes. -/
def Standing.code (st : Standing) : Byte :=
  match st with
  | .active => 0x00#8
  | .limited => 0x01#8
  | .isolated => 0x02#8

/-- The slot phase codes; FREE is 00h. -/
def Phase.code (p : Phase) : Byte :=
  match p with
  | .filling => 0x01#8
  | .queued => 0x02#8
  | .issued => 0x03#8
  | .ready => 0x04#8
  | .delivering => 0x05#8

/-- The kind codes. -/
def kindCode (k : Kind) : Byte :=
  match k with
  | .read => 0x00#8
  | .write => 0x01#8

/-- The outcome codes. -/
def Result.code (r : Result) : Byte :=
  match r with
  | .done => 0x00#8
  | .denied => 0x01#8
  | .unmapped => 0x02#8
  | .protocol => 0x03#8
  | .memfault => 0x04#8
  | .timeout => 0x05#8

/-- The protocol cause codes. -/
def ProtocolCause.code (c : ProtocolCause) : Byte :=
  match c with
  | .beats => 0x00#8
  | .range => 0x01#8
  | .tag => 0x02#8
  | .short => 0x03#8
  | .long => 0x04#8

/-- The STANDING cause codes. -/
def StandingCause.code (c : StandingCause) : Byte :=
  match c with
  | .score => 0x00#8
  | .service => 0x01#8
  | .quiet => 0x02#8
  | .witness => 0x03#8

/-- The MEMORY FAULT cause codes. -/
def MemoryFaultCause.code (c : MemoryFaultCause) : Byte :=
  match c with
  | .bad => 0x00#8
  | .writeFail => 0x01#8

/-- The MEMORY STANDING cause codes. -/
def MemoryCause.code (c : MemoryCause) : Byte :=
  match c with
  | .score => 0x00#8
  | .abortTimeout => 0x01#8
  | .service => 0x02#8

/-- The STALL phase codes. -/
def StallPhase.code (p : StallPhase) : Byte :=
  match p with
  | .filling => 0x00#8
  | .delivering => 0x01#8

/-- The response status codes at a master port (Table 13-6), three lines wide. -/
def Status.code (st : Status) : BitVec 3 :=
  match st with
  | .done => 0#3
  | .denied => 1#3
  | .unmapped => 2#3
  | .protocol => 3#3
  | .memfault => 4#3
  | .timeout => 5#3
  | .cutoff => 6#3

/-- The code of a right (Table 13-2). -/
def Right.code (r : Right) : Byte :=
  match r with
  | .none => 0#8
  | .read => 1#8
  | .readWrite => 2#8

/-- The rights byte (Table 13-2). -/
def rightsByte (v : Vector Right 4) : Byte :=
  v[0].code ||| v[1].code <<< (2 : Nat) ||| v[2].code <<< (4 : Nat) ||| v[3].code <<< (6 : Nat)

/-- The flags byte, or the enables byte (Table 13-2). -/
def AlertSet.byte (a : AlertSet) : Byte :=
  boolByte a.queue ||| boolByte a.standing <<< (1 : Nat) ||| boolByte a.recovery <<< (2 : Nat) |||
    boolByte a.memory <<< (3 : Nat) ||| boolByte a.loss <<< (4 : Nat) ||| boolByte a.held <<< (5 : Nat)

/-! ### The fault record (Table 13-4, R190) -/

/-- The R/W byte: bit 7 is set where the address is absent (R190). -/
def kindByte (k : Kind) (address : Option Addr) : Byte :=
  match address with
  | some _ => kindCode k
  | none => kindCode k ||| 0x80#8

/-- The three address bytes: 000000h where the address is absent (R190). -/
def optAddrBytes (address : Option Addr) : List Byte :=
  match address with
  | some a => addrBytes a
  | none => [0#8, 0#8, 0#8]

/-- Two standings in one byte, the old one in bits 7 to 4 (Table 13-4). -/
def standingsByte (old new : Byte) : Byte := old <<< (4 : Nat) ||| new

/-- An absent two-byte score (R190). -/
def absentHalf : List Byte := [0xFF#8, 0xFF#8]

/-- Bytes 5 to 15 of a fault record (Table 13-4): master, tag, R/W, address, detail, cause, standings, score. -/
def bodyBytes (m t k : Byte) (a : Option Addr) (detail cause standings : Byte) (score : List Byte) : List Byte :=
  [m, t, k] ++ optAddrBytes a ++ [detail, cause, standings] ++ score

/-- Bytes 5 to 15 of the fault record of each kind (Table 13-4, R190). -/
def RecordBody.bytes (b : RecordBody) : List Byte :=
  match b with
  | .denied m t k a w n =>
    bodyBytes (numByte m.val) (numByte t.val) (kindByte k (some a)) (some a) (numByte w.val) absentByte absentByte (numHalf n)
  | .unmapped m t k a n =>
    bodyBytes (numByte m.val) (numByte t.val) (kindByte k (some a)) (some a) absentByte absentByte absentByte (numHalf n)
  | .protocol m t k c a n =>
    bodyBytes (numByte m.val) (numByte t.val) (kindByte k a) a absentByte c.code absentByte (numHalf n)
  | .stall m t k p n =>
    bodyBytes (numByte m.val) (numByte t.val) (kindByte k none) none p.code absentByte absentByte (numHalf n)
  | .standing m old new c n d =>
    bodyBytes (numByte m.val) absentByte absentByte none (optByte numByte d) c.code (standingsByte old.code new.code)
      (numHalf n)
  | .portCleared m d =>
    bodyBytes (numByte m.val) absentByte absentByte none (numByte d) absentByte absentByte absentHalf
  | .memoryTimeout m t k a o n =>
    bodyBytes (numByte m.val) (numByte t.val) (kindByte k a) a (boolByte o) absentByte absentByte (numHalf n)
  | .memoryFault m t k a o c n =>
    bodyBytes (numByte m.val) (numByte t.val) (kindByte k a) a (boolByte o) c.code absentByte (numHalf n)
  | .memoryCorrected m t a o n =>
    bodyBytes (numByte m.val) (numByte t.val) (kindByte .read a) a (boolByte o) absentByte absentByte (numHalf n)
  | .memoryStanding old new c n =>
    bodyBytes absentByte absentByte absentByte none absentByte c.code (standingsByte old.code new.code) (numHalf n)
  | .mode m =>
    bodyBytes absentByte absentByte absentByte none m.code absentByte absentByte absentHalf

/-- The sixteen bytes of a fault record (Table 13-4). -/
def FaultRecord.bytes (r : FaultRecord) : List Byte :=
  halfBytes r.sequence ++ [numByte r.body.code] ++ numHalf r.lost ++ r.body.bytes

/-! ### The data of the reading commands (Table 13-3) -/

/-- The four places of the wait list, head first; the places beyond its length are FFh (R190). -/
def waitListBytes (l : List Master) : List Byte :=
  [0, 1, 2, 3].map fun i => optByte (fun p : Master => numByte p.val) l[i]?

/-- The data of READ STATUS (R176). -/
def State.statusData (s : State) : List Byte :=
  [s.mode.code, s.link.origin.code, s.mem.state.code, boolByte s.mem.holdPending, s.health.standing.code,
    numByte s.health.score, numByte s.freeSlots, numByte s.freeWords] ++ waitListBytes s.waitList ++
    [numByte s.queue.records.length]

/-- The recovery count as READ MASTER reports it: 0 in MANUAL (R77). -/
def Confinement.reportedCount (c : Confinement) : Nat := if c.recovery = .manual then 0 else c.count

/-- The data of READ MASTER (R77). -/
def State.masterData (s : State) (m : Master) : List Byte :=
  let c := s.conf m
  [c.standing.code] ++ numHalf c.score ++ [c.recovery.code] ++ numHalf c.reportedCount ++
    [numByte c.deferral, boolByte c.waitListed, numByte (s.held m)]

/-- The data of READ WINDOW (R57). -/
def Window.data (w : Window) : List Byte :=
  [boolByte w.live] ++ addrBytes w.base ++ addrBytes w.last ++ [rightsByte w.rights]

/-- The data of READ SETTINGS (R177). -/
def State.settingsData (s : State) : List Byte :=
  wordBytes s.fill ++ [numByte s.time.divider, numByte s.time.masterTimeout, numByte s.time.memoryTimeout,
    numByte s.deferral] ++ halfBytes (s.queue.mask.zeroExtend 16)

/-- The data of READ ALERTS (R168). -/
def State.alertData (s : State) : List Byte :=
  [s.alerts.flags.byte, s.alerts.enables.byte] ++ numHalf s.queue.lost

/-- The timer of a slot as READ SLOT gives it (R178): the memory timer for the ISSUED slot; FFFFh where it is absent (R190). -/
def State.slotTimer (s : State) (x : Slot) : List Byte :=
  match if x.phase = .issued then s.mem.timer else x.timer with
  | some n => numHalf n
  | none => absentHalf

/-- The data of READ SLOT for a live slot (R178). -/
def State.liveSlotData (s : State) (x : Slot) : List Byte :=
  [x.phase.code, numByte x.master.val, numByte x.tag.val, kindByte x.kind x.address] ++ optAddrBytes x.address ++
    [numByte x.beats.val, numByte x.reserved, optByte (fun w : WindowIx => numByte w.val) x.window,
      optByte Result.code x.outcome, optByte ProtocolCause.code x.cause, boolByte x.corrected, boolByte x.orphan,
      x.admission] ++ s.slotTimer x ++ [numByte x.progress]

/-- The data of READ SLOT (R178): a FREE slot is given with its phase alone (R190). -/
def State.slotData (s : State) (k : SlotIx) : List Byte :=
  match s.slot k with
  | none => 0x00#8 :: List.replicate 17 absentByte
  | some x => s.liveSlotData x

/-! ### Answers (R174) -/

/-- The bytes of an answer: status, data, check byte. -/
def Answer.bytes (a : Answer) : List Byte := withCheck (a.status.code :: a.data)

end Sys2Proof.Machine
end

