-- ==== Sys2Proof/Machine/Link.lean ====
section
/-! DEFINITION. The service link (Chapter 11): bits shifted into a frame, the bytes given on SDOUT, the ending of a frame, and the
meanings of the commands at the link's own lines. -/

namespace Sys2Proof.Machine

/-! ### What SDOUT gives (R171, R175) -/

/-- The byte of place `i` of the retained answer; FFh beyond the check byte (R175). -/
def answerByte (r : Option Answer) (i : Nat) : Byte :=
  match r with
  | none => 0xFF#8
  | some a => a.bytes.getD i 0xFF#8

/-- The byte given on SDOUT during the byte of a frame that follows `count` completed bytes, the first of which is in `bytes`:
FFh during the first byte and throughout a command frame (R171), and the retained answer, from its status on, during the
dummy bytes of a read-answer frame (R175). -/
def givenByte (r : Option Answer) (bytes : List Byte) (count : Nat) : Byte :=
  match count, bytes with
  | 0, _ => 0xFF#8
  | n + 1, b :: _ => if b = 0#8 then answerByte r n else 0xFF#8
  | _ + 1, [] => 0xFF#8

/-- The bit that SDOUT gives for the next bit of the frame in progress: each byte is given most significant bit first (R170). -/
def sdoutBit (r : Option Answer) (f : Frame) : Bool := (givenByte r f.bytes f.count).getLsbD (7 - f.bits.length)

/-- A frame that has just begun (R186). -/
def Frame.fresh : Frame := { bytes := [], count := 0, bits := [] }

/-- A byte is completed (R170, R171): the link keeps it up to the eleventh. -/
def Frame.complete (f : Frame) (b : Byte) : Frame :=
  { bytes := if f.count < Config.frameKept then f.bytes ++ [b] else f.bytes, count := f.count + 1, bits := [] }

/-- A frame begins at the assertion of SSEL: SDOUT shows the first bit of the first byte, FFh (R170). -/
def Link.start (l : Link) : Link :=
  { l with ssel := true, frame := some Frame.fresh, sdout := some (sdoutBit l.retained Frame.fresh), given := [] }

/-- One bit is sampled into the frame `f` in progress (R170). The eighth bit completes a byte; a first byte that is not 00h begins
a command frame and discards the retained answer (R171). SDOUT does not change: it changes at the falling edge. -/
def Link.shift (l : Link) (f : Frame) (sdin : Bool) : Link :=
  if f.bits.length < 7 then { l with frame := some { f with bits := f.bits ++ [sdin] } }
  else
    let b := bitsByte (f.bits ++ [sdin])
    { l with frame := some (f.complete b), retained := if f.count = 0 ∧ b ≠ 0#8 then none else l.retained,
             given := l.given ++ [givenByte l.retained f.bytes f.count] }

/-- The level of SCLK changes, and nothing else does: all that an edge of SCLK does while the link takes none (R170, R182). -/
def State.setSclk (s : State) (high : Bool) : State := { s with link := { s.link with sclk := high } }

/-- The falling edge of SCLK (R170), at which SDOUT shows the next bit of the frame in progress; where SCLK is low there is none. In a
frame that is ignored since a reset what SDOUT shows is not stated (notes/assumptions/5.md). With SSEL deasserted, or RESET asserted,
the edge has no effect but on the line's level (R182). When the edge comes is said in notes/assumptions/8.md. -/
def State.sclkFall (s : State) : State :=
  if s.link.sclk then
    let s1 := s.setSclk false
    if s.resetPin then s1
    else
      match s.link.ssel, s.link.frame with
      | false, _ => s1
      | true, some f => { s1 with link := { s1.link with sdout := some (sdoutBit s.link.retained f) } }
      | true, none => { s1 with link := { s1.link with sdout := Config.sdoutUnstated s.draws }, draws := s.draws + 1 }
  else s

/-! ### The end of a frame -/

/-- The frame `f` in progress is the beginning of a frame of the bytes `bytes` that ends with the bits `tail`. -/
def Frame.begins (f : Frame) (bytes : List Byte) (tail : List Bool) : Bool :=
  decide (f.count ≤ bytes.length) && f.bytes == (bytes.take f.count).take Config.frameKept &&
    f.bits.isPrefixOf (bytesBits (bytes.drop f.count) ++ tail)

/-- The link can bring a frame of `bytes` and `tail` to its end: RESET is released, and SSEL is deasserted, or a frame is in progress
that is the beginning of it. What is still missing of the frame is shifted in before it ends (notes/assumptions/3.md). -/
def State.accepts (s : State) (bytes : List Byte) (tail : List Bool) : Bool :=
  !s.resetPin &&
    match s.link.ssel, s.link.frame with
    | false, _ => true
    | true, some f => f.begins bytes tail
    | true, none => false

/-- The bytes that the unit gives on SDOUT during a frame of `bytes` (R171, R175). -/
def givenBytes (r : Option Answer) (bytes : List Byte) : List Byte :=
  (List.range bytes.length).map (givenByte r bytes)

/-- SSEL is deasserted at the end of a frame during which `given` has been given: SDOUT is not driven, no frame is in progress, and
SCLK rests low (R170). -/
def State.deselect (s : State) (given : List Byte) : State :=
  { s with link := { s.link with ssel := false, sclk := false, frame := none, sdout := none, given := given } }

/-- The answer formed at a command event becomes the retained answer (R173). -/
def State.retain (s : State) (a : Answer) : State := { s with link := { s.link with retained := some a } }

/-- A command frame of `bytes` ends with the answer `a`. -/
def State.endCommand (s : State) (bytes : List Byte) (a : Answer) : State :=
  (s.deselect (List.replicate bytes.length 0xFF#8)).retain a

/-! ### The meanings -/

/-- SSEL_ASSERTION (R170): a new frame begins. While RESET is asserted the edge has no effect but on the line's level: SDOUT stays
as it is, and the frame is ignored (R182). -/
def execSselAssertion (s : State) : Host.Outcome State Fault Refusal :=
  if s.link.ssel then .next s
  else if s.resetPin then .next { s with link := { s.link with ssel := true, frame := none } }
  else .next { s with link := s.link.start }

/-- The bit of SDIN at a rising edge of SCLK is sampled into the frame in progress (R170). No bit is taken with SSEL deasserted, in a
frame that is ignored since a reset, or while RESET is asserted (R181, R182). -/
def State.sample (s : State) (sdin : Bool) : State :=
  if s.resetPin then s
  else
    match s.link.ssel, s.link.frame with
    | true, some f => { s with link := s.link.shift f sdin }
    | true, none => s
    | false, _ => s

/-- SCLK_RISING_EDGE (R170): SCLK, which has fallen before where it was high (notes/assumptions/8.md), rises, and one bit of SDIN is
sampled into the frame in progress. -/
def execSclkRisingEdge (sdin : Bool) (s : State) : Host.Outcome State Fault Refusal :=
  .next ((s.sclkFall.setSclk true).sample sdin)

/-- The first byte of a frame can be completed as `code`: the frame has not begun, or what is shifted of its first byte fits. -/
def State.acceptsCode (s : State) (code : Byte) : Bool :=
  !s.resetPin && code != 0#8 &&
    match s.link.ssel, s.link.frame with
    | false, _ => true
    | true, some f => f.count == 0 && f.bytes == [] && f.bits.isPrefixOf (byteBits code)
    | true, none => false

/-- COMMAND_FRAME_BEGIN (R171): the first byte of a frame is completed and is not 00h; the retained answer is discarded. SCLK is high
after its eighth rising edge, and SDOUT still shows the last bit of FFh. -/
def execCommandFrameBegin (code : Byte) (s : State) : Host.Outcome State Fault Refusal :=
  if s.acceptsCode code then
    .next { s with link := { s.link with
      ssel := true, sclk := true, frame := some (Frame.fresh.complete code), retained := none, sdout := some true,
      given := [0xFF#8] } }
  else .next s

/-- READ_ANSWER_FRAME (R175): a frame that begins with 00h ends. The retained answer has been given during its dummy bytes, and
nothing is changed. -/
def execReadAnswerFrame (dummies : List Byte) (tail : List Bool) (s : State) : Host.Outcome State Fault Refusal :=
  if decide (tail.length < 8) && s.accepts (0#8 :: dummies) tail then
    .next (s.deselect (givenBytes s.link.retained (0#8 :: dummies)))
  else .next s

/-- UNKNOWN_CODE_FRAME (R173, lines 1 to 6): a command frame that is refused with FRAME or UNKNOWN ends; nothing is executed. -/
def execUnknownCodeFrame (bytes : List Byte) (tail : List Bool) (s : State) : Host.Outcome State Fault Refusal :=
  if isCommandFrame bytes && decide (tail.length < 8) && s.accepts bytes tail then
    match judgeFrame bytes tail with
    | .frame => .next (s.endCommand bytes { status := .frame, data := [] })
    | .unknown => .next (s.endCommand bytes { status := .unknown, data := [] })
    | .accepted => .next s
  else .next s

/-- The frame under way is one that its end drops: its first byte is not completed, or it is ignored since a reset (R171, R181). -/
def Link.endIgnored (l : Link) : Bool :=
  match l.ssel, l.frame with
  | false, _ => false
  | true, none => true
  | true, some f => f.count == 0

/-- IGNORED_FRAME_END (R171): SSEL is deasserted and the frame is dropped; nothing is executed and the retained answer stands. -/
def execIgnoredFrameEnd (s : State) : Host.Outcome State Fault Refusal :=
  if s.link.endIgnored then .next (s.deselect s.link.given) else .next s

end Sys2Proof.Machine
end

