-- ==== Sys2Proof/Machine/Ports.lean ====
section
/-! DEFINITION. The meanings of the commands at the request and write-data channels of the master ports and at the port clear inputs
(Chapter 2), with the admission event and the CUTOFF event. An event whose conditions do not hold does not take place, and
the state stands (notes/assumptions/2.md). -/

namespace Sys2Proof.Machine

/-- REQUEST_PRESENTATION (R21): the request becomes the port's head request; while PCLR is asserted it waits on the channel. A
master presents its next request only after the head request has been taken, so nothing is presented behind one that stands. -/
def execRequestPresentation (p : Master) (r : Request) (s : State) : Host.Outcome State Fault Refusal :=
  if (s.port p).head.isSome || (s.port p).waiting.isSome then .next s
  else if (s.port p).pclr then .next (s.setPort p { s.port p with waiting := some r })
  else .next (s.setPort p { s.port p with head := some r }).joinWaiters

/-! ### The admission event (R24) -/

/-- The outcome that the admission event writes, with the protocol cause (R24). -/
def State.admitOutcome (s : State) (r : Request) (d : Decision) : Option Result :=
  match d with
  | .protocol _ => some .protocol
  | .denied _ => some .denied
  | .unmapped => some .unmapped
  | .allowed _ => if r.kind = .read ∧ s.health.standing = .failed then some .memfault else none

/-- The protocol cause that a decision carries. -/
def Decision.cause (d : Decision) : Option ProtocolCause :=
  match d with
  | .protocol c => some c
  | .denied _ => none
  | .unmapped => none
  | .allowed _ => none

/-- The window index that a decision records (R45, R51). -/
def Decision.window (d : Decision) : Option WindowIx :=
  match d with
  | .protocol _ => none
  | .denied i => some i
  | .unmapped => none
  | .allowed i => i

/-- The burst address of a slot is absent for cause BEATS and RANGE (R2). -/
def Decision.keepsAddress (d : Decision) : Bool :=
  match d with
  | .protocol .beats => false
  | .protocol .range => false
  | .protocol .tag => true
  | .protocol .short => true
  | .protocol .long => true
  | .denied _ => true
  | .unmapped => true
  | .allowed _ => true

/-- The entry phase (R4). -/
def State.entryPhase (s : State) (r : Request) (d : Decision) : Phase :=
  match r.kind with
  | .read => if (s.admitOutcome r d).isSome then .ready else .queued
  | .write => if d.keepsAddress then .filling else .ready

/-- R4: a read that enters READY with outcome DENIED, UNMAPPED or MEMFAULT has its reservation written with the fill word. -/
def State.entryWords (s : State) (r : Request) (d : Decision) : List Word :=
  match r.kind, s.admitOutcome r d with
  | .read, some .denied => List.replicate r.beats.val s.fill
  | .read, some .unmapped => List.replicate r.beats.val s.fill
  | .read, some .memfault => List.replicate r.beats.val s.fill
  | _, _ => []

/-- The slot record that the admission event writes (R2, R4, R24 steps 3 and 4). -/
def State.newSlot (s : State) (p : Master) (r : Request) : Slot :=
  let d := s.decideRequest p r
  { phase := s.entryPhase r d
    master := p
    tag := r.tag
    kind := r.kind
    address := if d.keepsAddress then some r.address else none
    beats := r.beats
    reserved := s.need p r
    window := d.window
    outcome := s.admitOutcome r d
    cause := d.cause
    corrected := false
    orphan := false
    admission := s.counter p
    timer := if s.entryPhase r d = .filling then some s.time.masterTimeout else none
    progress := 0
    words := s.entryWords r d
    enables := [] }

/-- The entry that the write-data list gains for a request that took slot `k` (R22). -/
def State.newEntries (s : State) (p : Master) (k : SlotIx) (r : Request) : List ListEntry :=
  match r.kind with
  | .read => []
  | .write => if s.entryPhase r (s.decideRequest p r) = .filling then [.fill k] else [.discard]

/-- R24 step 4: slot `k` is allocated to the head request `r` of port `p`, the buffer reserves its need, the write-data list gains
its entry, and the port leaves the wait list. -/
def State.allocate (s : State) (p : Master) (k : SlotIx) (r : Request) : State :=
  let s1 := { s.setSlot k (some (s.newSlot p r)) with freeWords := s.freeWords - s.need p r }
  let s2 := s1.setCounter p (s.counter p + 1#8)
  let s3 := s2.setPort p
    { s2.port p with head := none, writeList := (s2.port p).writeList ++ s.newEntries p k r }
  s3.leaveWaitList p

/-- The weight of a DENIED or UNMAPPED fault: 8 for a write, 4 for a read (R63). -/
def accessWeight (k : Kind) : Nat :=
  match k with
  | .read => 4
  | .write => 8

/-- R27: the fault of a decision is handed over; an allowed request has none, and a MEMFAULT is no fault of the master. -/
def State.handOver (s : State) (p : Master) (r : Request) (d : Decision) : State :=
  match d with
  | .protocol c => s.fault p 8 (.protocol p r.tag r.kind c (if d.keepsAddress then some r.address else none))
  | .denied i => s.fault p (accessWeight r.kind) (.denied p r.tag r.kind r.address i)
  | .unmapped => s.fault p (accessWeight r.kind) (.unmapped p r.tag r.kind r.address)
  | .allowed _ => s

/-- ADMISSION_EVENT (R24): where R23 holds for port `p`, its head request is taken, and any port that the event makes to join the
wait list (R26, R30) joins it. -/
def execAdmissionEvent (p : Master) (s : State) : Host.Outcome State Fault Refusal :=
  match s.admissible p, s.lowestFree with
  | some r, some k => .next ((s.allocate p k r).handOver p r (s.decideRequest p r)).joinWaiters
  | _, _ => .next s

/-! ### The CUTOFF event (R38) -/

/-- The conditions of R38; the head request when they hold. -/
def State.cutoffDue (s : State) (p : Master) : Option Request :=
  match (s.port p).head with
  | none => none
  | some r =>
    if (s.conf p).standing == .isolated && !s.resetPin && !(s.port p).pclr && (s.port p).offer.isNone
        && (r.kind == .read || decide ((s.port p).writeList.length < Config.writeListCapacity)) then some r
    else none

/-- The CUTOFF answer to a request (R38). -/
def cutoffItem (r : Request) : Item :=
  { tag := r.tag, status := .cutoff, word := none, last := true, withdrawn := false, corrected := false }

/-- CUTOFF_EVENT (R38): the head request is taken without a slot and answered with one item; a write gains a discard entry; the
recovery count of a master in QUIET is set to 0. -/
def execCutoffEvent (p : Master) (s : State) : Host.Outcome State Fault Refusal :=
  match s.cutoffDue p with
  | none => .next s
  | some r =>
    let entries := if r.kind = .write then [ListEntry.discard] else []
    let s1 := s.setPort p
      { s.port p with head := none, offer := some (cutoffItem r), writeList := (s.port p).writeList ++ entries }
    let c := s1.conf p
    .next (s1.setConf p { c with count := if c.recovery = .quiet then 0 else c.count })

/-! ### Write data (R33 to R36) -/

/-- The write-data list of port `p` written. -/
def State.setWriteList (s : State) (p : Master) (l : List ListEntry) : State :=
  s.setPort p { s.port p with writeList := l }

/-- A slot after it has taken the beat `b` (R33): counted, and kept where the write is allowed. -/
def Slot.takeBeat (x : Slot) (b : DataBeat) : Slot :=
  if x.outcome.isNone then
    { x with progress := x.progress + 1, words := x.words ++ [b.word], enables := x.enables ++ [b.enables] }
  else { x with progress := x.progress + 1 }

/-- R33: the slot `x` leaves FILLING at the last beat in the declared count. -/
def State.finishFilling (s : State) (x : Slot) : Slot :=
  match x.outcome with
  | some _ => { x with phase := .ready, timer := none }
  | none =>
    if s.health.standing = .failed then { x with phase := .ready, timer := none, outcome := some .memfault }
    else { x with phase := .queued, timer := none }

/-- R34, R35: the slot `x` ends malformed. -/
def Slot.malformed (x : Slot) (c : ProtocolCause) : Slot :=
  { x with phase := .ready, timer := none, outcome := some .protocol, cause := some c }

/-- The beat `b` is applied to the FILLING slot `k`, whose fill entry stands at the head of the list of port `p` before `rest`
(R33 to R35). -/
def State.fillBeat (s : State) (p : Master) (k : SlotIx) (x : Slot) (rest : List ListEntry) (b : DataBeat) : State :=
  let x1 := x.takeBeat b
  if x1.progress < x.beats.val then
    if b.last then
      ((s.setSlot k (some (x1.malformed .short))).setWriteList p rest).fault x.master 8
        (.protocol x.master x.tag x.kind .short x.address)
    else s.setSlot k (some x1)
  else if b.last then (s.setSlot k (some (s.finishFilling x1))).setWriteList p rest
  else
    ((s.setSlot k (some (x1.malformed .long))).setWriteList p (.discard :: rest)).fault x.master 8
      (.protocol x.master x.tag x.kind .long x.address)

/-- WRITE_DATA_BEAT (R33): a beat is taken at a port whose write-data list holds an entry, and applied to the head entry. -/
def execWriteDataBeat (p : Master) (b : DataBeat) (s : State) : Host.Outcome State Fault Refusal :=
  if s.resetPin || (s.port p).pclr then .next s
  else
    match (s.port p).writeList with
    | [] => .next s
    | .discard :: rest => .next (if b.last then s.setWriteList p rest else s).joinWaiters
    | .fill k :: rest =>
      match s.slot k with
      | none => .next s
      | some x => .next (s.fillBeat p k x rest b).joinWaiters

/-- FILLING_STALL (R37): the timer of the FILLING slot `k` has expired. The slot is freed, its fill entry becomes a discard entry in
its place, and the STALL is handed over. -/
def execFillingStall (k : SlotIx) (s : State) : Host.Outcome State Fault Refusal :=
  match s.slot k with
  | none => .next s
  | some x =>
    if x.phase = .filling ∧ x.timer = some 0 then
      let s1 := s.freeSlot k
      let s2 := s1.setWriteList x.master ((s1.port x.master).writeList.map (ListEntry.unfill k))
      .next (s2.fault x.master 8 (.stall x.master x.tag x.kind .filling)).joinWaiters
    else .next s

/-! ### Port clear (R40, R41) -/

/-- PCLR_ASSERTION (R40): the port clear of port `p`. While RESET is asserted the edge has no effect but on the line's level
(R182). -/
def execPclrAssertion (p : Master) (s : State) : Host.Outcome State Fault Refusal :=
  if (s.port p).pclr then .next s
  else
    let s1 := s.setPort p { s.port p with pclr := true }
    if s.resetPin then .next s1 else .next (s1.portClear p).joinWaiters

/-- R41: a request that waits on the channel becomes the head request of port `p`. -/
def Port.promote (x : Port) : Port :=
  match x.waiting with
  | none => x
  | some r => if x.head.isNone && !x.pclr then { x with head := some r, waiting := none } else x

/-- PCLR_RELEASE (R41): the port goes on empty and free, and a request presented meanwhile becomes its head request. While RESET is
asserted the edge has no effect but on the line's level (R182). -/
def execPclrRelease (p : Master) (s : State) : Host.Outcome State Fault Refusal :=
  if (s.port p).pclr then
    let s1 := s.setPort p { s.port p with pclr := false }
    if s.resetPin then .next s1 else .next (s1.setPort p (s1.port p).promote).joinWaiters
  else .next s

end Sys2Proof.Machine
end

