-- ==== Sys2Proof/Machine/Resets.lean ====
section
/-! DEFINITION. The three kinds of part reset (sections 11.5 and 11.6): the values each gives, and the meanings of the power-on reset
and of the RESET input. -/

namespace Sys2Proof.Machine

/-- A write-data list after a pin reset or a service reset (R42): every fill entry is a discard entry in its place. -/
def Port.resetList (x : Port) : List ListEntry := x.writeList.map ListEntry.toDiscard

/-- A master port after a power-on reset (R19, R42): a request presented at the reset stays presented, the PCLR input is as the board
drives it. -/
def Port.afterPower (x : Port) : Port := { Port.empty with head := x.head, waiting := x.waiting, pclr := x.pclr }

/-- A master port after a pin reset: as after power-on, but the write-data list keeps its entries, as discard entries (R42). -/
def Port.afterPin (x : Port) : Port := { x.afterPower with writeList := x.resetList }

/-- SDOUT where a reset leaves no frame in progress: not driven while SSEL is deasserted (R170); not stated while it is asserted, a
free value (notes/assumptions/5.md). -/
def State.sdoutAtReset (s : State) : Option Bool := if s.link.ssel then Config.sdoutUnstated s.draws else none

/-- The values of a power-on reset or pin reset with origin `o` (R179, R180): those of State.reset, with the input lines and the
requests presented at the ports as they stand. -/
def State.resetValues (s : State) (o : Origin) (onPort : Port → Port) : State :=
  { State.reset with
    ports := mapBank onPort s.ports
    link := { State.reset.link with ssel := s.link.ssel, sclk := s.link.sclk, origin := o, sdout := s.sdoutAtReset }
    resetPin := s.resetPin
    draws := s.draws + 1
    pending := s.pending }

/-- The ports whose PCLR input is asserted. -/
def State.clearedPorts (s : State) : List Master := allMasters.filter fun p => (s.port p).pclr

/-- The unit goes on at the end of a reset (R181, R182): a request that waits at a port whose PCLR input is released becomes its head
request (R41); the port clear is carried out for each port whose PCLR input is asserted, several of them in either order. -/
def State.goOn (s : State) : State :=
  let s1 := { s with ports := mapBank Port.promote s.ports }
  (inFreeOrder State.portClear 4 s1.clearedPorts s1).joinWaiters

/-- POWER_ON_RESET (R181): power has risen, and every block holds its power-on values. With the RESET input asserted the unit stays
in reset, whose origin is PIN; otherwise it goes on. -/
def execPowerOnReset (s : State) : Host.Outcome State Fault Refusal :=
  if s.resetPin then .next (s.resetValues .pin Port.afterPower)
  else .next (s.resetValues .power Port.afterPower).goOn

/-- RESET_ASSERTION (R182): every block takes its pin-reset values, and a frame in progress is abandoned. -/
def execResetAssertion (s : State) : Host.Outcome State Fault Refusal :=
  if s.resetPin then .next s else .next ({ s with resetPin := true }.resetValues .pin Port.afterPin)

/-- RESET_RELEASE (R182): the unit goes on from its pin-reset values. A frame whose SSEL is asserted is ignored until SSEL is
deasserted, for no frame is in progress. -/
def execResetRelease (s : State) : Host.Outcome State Fault Refusal :=
  if s.resetPin then .next { s with resetPin := false }.goOn else .next s

/-- A confinement record after a service reset (R78, R97): the recovery mode is kept. -/
def Confinement.afterService (c : Confinement) : Confinement := { Confinement.fresh with recovery := c.recovery }

/-- A master port after a service reset (R19, R42, R97). -/
def Port.afterService (x : Port) : Port := { x with writeList := x.resetList, offer := none, cut := false }

/-- The memory port after a service reset (R132): DRAINING with ABORT raised and a fresh abort timer where it was BUSY or DRAINING,
IDLE otherwise. -/
def State.memAfterService (s : State) : MemPort :=
  match s.mem.state with
  | .busy => { MemPort.fresh with state := .draining, abort := true, timer := some s.time.memoryTimeout }
  | .draining => { MemPort.fresh with state := .draining, abort := true, timer := some s.time.memoryTimeout }
  | .idle => MemPort.fresh
  | .held => MemPort.fresh
  | .failed => MemPort.fresh

/-- The values of a service reset (R183): working state returned to its starting values, settings kept. The window table, mode, fill
word, D, divider setting, timeouts, record mask and alert enables are kept. -/
def State.serviceReset (s : State) : State :=
  { s with
    slots := Vector.replicate 16 none
    counters := Vector.replicate 4 0#8
    ports := mapBank Port.afterService s.ports
    freeWords := Config.bufferWords
    waitList := []
    masters := mapBank Confinement.afterService s.masters
    pointer := 3
    mem := s.memAfterService
    health := { score := 0, standing := .sound }
    time := { s.time with count := 0 }
    queue := { records := [], nextSeq := 0#16, lost := 0, mask := s.queue.mask }
    alerts := { flags := .clear, enables := s.alerts.enables, line := false }
    link := { s.link with origin := .service } }

end Sys2Proof.Machine
end

