-- ==== Sys2Proof/Machine/Commands.lean ====
section
/-! DEFINITION. The meanings of the 24 commands of the service link. Each is the command event that ends the frame carrying it
(R173): its effect, by the rule of its chapter, and the answer that becomes the retained answer. -/

namespace Sys2Proof.Machine

/-- What a command does to the state, and the answer formed at its event. -/
abbrev Effect := State → Answer × State

/-- An answer without data (R174). -/
def plain (a : AnswerStatus) : Answer := { status := a, data := [] }

/-- An OK answer with data. -/
def okData (d : List Byte) : Answer := { status := .ok, data := d }

/-- The command event (R173) of the frame whose code and argument bytes are `body`: the effect, and its answer retained. -/
def State.command (s : State) (body : List Byte) (e : Effect) : State :=
  if s.accepts (withCheck body) [] then (e s).2.endCommand (withCheck body) (e s).1 else s

/-- A refusal with RANGE where the arguments are out of range (R173 line 7), and else the effect. -/
def ranged {α : Type} (arg : Option α) (e : α → Effect) : Effect := fun s =>
  match arg with
  | none => (plain .range, s)
  | some a => e a s

/-! ### Reading commands -/

/-- READ_STATUS (R176). -/
def execReadStatus (s : State) : Host.Outcome State Fault Refusal :=
  .next (s.command [0x01#8] fun s => (okData s.statusData, s))

/-- READ_SETTINGS (R177). -/
def execReadSettings (s : State) : Host.Outcome State Fault Refusal :=
  .next (s.command [0x02#8] fun s => (okData s.settingsData, s))

/-- READ_ALERTS (R168). -/
def execReadAlerts (s : State) : Host.Outcome State Fault Refusal :=
  .next (s.command [0x03#8] fun s => (okData s.alertData, s))

/-- READ_MASTER (R77). -/
def execReadMaster (master : Byte) (s : State) : Host.Outcome State Fault Refusal :=
  .next (s.command [0x04#8, master] (ranged (readMasterArg master) fun m s => (okData (s.masterData m), s)))

/-- READ_WINDOW (R57). -/
def execReadWindow (index : Byte) (s : State) : Host.Outcome State Fault Refusal :=
  .next (s.command [0x05#8, index] (ranged (readIndexArg index) fun i s => (okData (s.window i).data, s)))

/-- READ_SLOT (R178). -/
def execReadSlot (index : Byte) (s : State) : Host.Outcome State Fault Refusal :=
  .next (s.command [0x06#8, index] (ranged (readIndexArg index) fun k s => (okData (s.slotData k), s)))

/-! ### The fault queue and the alert block (Chapter 10) -/

/-- PEEK_FAULT (R160). -/
def peekEffect : Effect := fun s =>
  match s.queue.records with
  | [] => (plain .empty, s)
  | r :: _ => (okData r.bytes, s)

/-- PEEK_FAULT (R160). -/
def execPeekFault (s : State) : Host.Outcome State Fault Refusal := .next (s.command [0x07#8] peekEffect)

/-- POP_FAULT (R161): the oldest record is removed; the removal that empties the queue clears QUEUE (R165). -/
def popEffect : Effect := fun s =>
  match s.queue.records with
  | [] => (plain .empty, s)
  | r :: rest =>
    let s1 := { s with queue := { s.queue with records := rest } }
    (okData r.bytes, if rest = [] then s1.lowerQueue else s1)

/-- POP_FAULT (R161). -/
def execPopFault (s : State) : Host.Outcome State Fault Refusal := .next (s.command [0x08#8] popEffect)

/-- SET_RECORD_MASK (R159). -/
def execSetRecordMask (mask : BitVec 16) (s : State) : Host.Outcome State Fault Refusal :=
  .next (s.command (0x15#8 :: halfBytes mask)
    (ranged (readMaskArg mask) fun m s => (plain .ok, { s with queue := { s.queue with mask := m } })))

/-- The flags that stay after a clear (R166): each named sticky flag becomes clear, QUEUE stays as it is. -/
def AlertSet.without (f named : AlertSet) : AlertSet :=
  { queue := f.queue
    standing := f.standing && !named.standing
    recovery := f.recovery && !named.recovery
    memory := f.memory && !named.memory
    loss := f.loss && !named.loss
    held := f.held && !named.held }

/-- CLEAR_ALERTS (R166). -/
def execClearAlerts (flags : Byte) (s : State) : Host.Outcome State Fault Refusal :=
  .next (s.command [0x17#8, flags]
    (ranged (readAlertArg flags) fun a s => (plain .ok, s.withFlags (s.alerts.flags.without a))))

/-- SET_ALERT_ENABLES (R167). -/
def execSetAlertEnables (enables : Byte) (s : State) : Host.Outcome State Fault Refusal :=
  .next (s.command [0x16#8, enables] (ranged (readAlertArg enables) fun a s => (plain .ok, s.withEnables a)))

/-! ### The window block and the settings (Chapters 3, 6 and 9) -/

/-- SET_MODE (R53): a MODE record where the mode changes. -/
def setModeEffect (m : Mode) : Effect := fun s =>
  (plain .ok, if m = s.mode then s else { s with mode := m }.hand (.mode m))

/-- SET_MODE (R53). -/
def execSetMode (mode : Byte) (s : State) : Host.Outcome State Fault Refusal :=
  .next (s.command [0x11#8, mode] (ranged (readModeArg mode) setModeEffect))

/-- SET_FILL (R50). -/
def execSetFill (fill : Word) (s : State) : Host.Outcome State Fault Refusal :=
  .next (s.command (0x12#8 :: wordBytes fill) fun s => (plain .ok, { s with fill := fill }))

/-- WRITE_WINDOW (R55): the entry is replaced whole. -/
def execWriteWindow (index live : Byte) (base last : Addr) (rights : Byte) (s : State) : Host.Outcome State Fault Refusal :=
  .next (s.command ([0x18#8, index, live] ++ addrBytes base ++ addrBytes last ++ [rights])
    (ranged (readWindowArgs index live base last rights) fun iw s => (plain .ok, s.setWindow iw.1 iw.2)))

/-- SET_TIMING (R150): the three settings are taken together and the divider count is set to 0. -/
def execSetTiming (divider masterTimeout memoryTimeout : Byte) (s : State) : Host.Outcome State Fault Refusal :=
  .next (s.command [0x13#8, divider, masterTimeout, memoryTimeout]
    (ranged (readTimingArgs divider masterTimeout memoryTimeout) fun t s =>
      (plain .ok, { s with time := { divider := t.1, count := 0, masterTimeout := t.2.1, memoryTimeout := t.2.2 } })))

/-- SET_DEFERRAL (R110). -/
def execSetDeferral (d : Byte) (s : State) : Host.Outcome State Fault Refusal :=
  .next (s.command [0x14#8, d] (ranged (readDeferralArg d) fun n s => (plain .ok, { s with deferral := n })))

/-! ### The confinement records (Chapters 4 and 5) -/

/-- SET_RECOVERY (R93): the mode takes the value and the count is set to 0. -/
def execSetRecovery (master mode : Byte) (s : State) : Host.Outcome State Fault Refusal :=
  .next (s.command [0x21#8, master, mode]
    (ranged (readMasterArg master) fun m => ranged (readRecoveryArg mode) fun r s =>
      (plain .ok, s.setConf m { s.conf m with recovery := r, count := 0 })))

/-- CLEAR_SCORE (R75). -/
def clearScoreEffect (m : Master) : Effect := fun s =>
  let c := s.conf m
  match c.standing with
  | .active => (plain .ok, s.setConf m { c with score := 0 })
  | .limited =>
    (plain .ok,
      (((s.setConf m { c with score := 0, standing := .active, deferral := 0 }).hand
        (.standing m .limited .active .service 0 none)).raiseRecovery).joinWaiters)
  | .isolated => (plain .state, s)

/-- CLEAR_SCORE (R75). -/
def execClearScore (master : Byte) (s : State) : Host.Outcome State Fault Refusal :=
  .next (s.command [0x22#8, master] (ranged (readMasterArg master) clearScoreEffect))

/-- ISOLATE (R84). -/
def isolateEffect (m : Master) : Effect := fun s =>
  match (s.conf m).standing with
  | .active => (plain .ok, (s.isolateMaster m .service).joinWaiters)
  | .limited => (plain .ok, (s.isolateMaster m .service).joinWaiters)
  | .isolated => (plain .state, s)

/-- ISOLATE (R84). -/
def execIsolate (master : Byte) (s : State) : Host.Outcome State Fault Refusal :=
  .next (s.command [0x23#8, master] (ranged (readMasterArg master) isolateEffect))

/-- RESTORE (R94). -/
def restoreEffect (m : Master) : Effect := fun s =>
  match (s.conf m).standing with
  | .active => (plain .state, s)
  | .limited => (plain .state, s)
  | .isolated => (plain .ok, (s.recover m .service).joinWaiters)

/-- RESTORE (R94). -/
def execRestore (master : Byte) (s : State) : Host.Outcome State Fault Refusal :=
  .next (s.command [0x24#8, master] (ranged (readMasterArg master) restoreEffect))

/-! ### The memory port (Chapter 8) -/

/-- HOLD_MEMORY (R142). -/
def holdEffect : Effect := fun s =>
  match s.mem.state with
  | .idle => (plain .ok, { s with mem := { s.mem with state := .held } }.raiseHeld)
  | .busy => (plain .ok, { s with mem := { s.mem with holdPending := true } })
  | .draining => (plain .ok, { s with mem := { s.mem with holdPending := true } })
  | .held => (plain .ok, s)
  | .failed => (plain .state, s)

/-- HOLD_MEMORY (R142). -/
def execHoldMemory (s : State) : Host.Outcome State Fault Refusal := .next (s.command [0x31#8] holdEffect)

/-- RELEASE_MEMORY (R143). -/
def releaseEffect : Effect := fun s =>
  match s.mem.state with
  | .held => (plain .ok, { s with mem := { s.mem with state := .idle } })
  | .busy => (plain .ok, { s with mem := { s.mem with holdPending := false } })
  | .draining => (plain .ok, { s with mem := { s.mem with holdPending := false } })
  | .idle => (plain .ok, s)
  | .failed => (plain .state, s)

/-- RELEASE_MEMORY (R143). -/
def execReleaseMemory (s : State) : Host.Outcome State Fault Refusal := .next (s.command [0x32#8] releaseEffect)

/-- The memory port after RESTORE MEMORY (R140): a BUSY port goes on without its pending hold, every other is IDLE with ABORT low. -/
def MemPort.restored (p : MemPort) : MemPort :=
  match p.state with
  | .busy => { p with holdPending := false }
  | .idle => MemPort.fresh
  | .draining => MemPort.fresh
  | .held => MemPort.fresh
  | .failed => MemPort.fresh

/-- RESTORE_MEMORY (R140): the memory is SOUND with score 0; a MEMORY STANDING record and the MEMORY flag where it was not SOUND. -/
def restoreMemoryEffect : Effect := fun s =>
  let s1 := { s with mem := s.mem.restored, health := { score := 0, standing := .sound } }
  (plain .ok, if s.health.standing = .sound then s1 else s1.memStandingChanged s.health.standing .service)

/-- RESTORE_MEMORY (R140). -/
def execRestoreMemory (s : State) : Host.Outcome State Fault Refusal := .next (s.command [0x33#8] restoreMemoryEffect)

/-! ### The service reset (R183) -/

/-- RESET_PART (R183): the service reset takes place, and the answer OK is retained after it. -/
def execResetPart (s : State) : Host.Outcome State Fault Refusal :=
  .next (s.command [0x3C#8] fun s => (plain .ok, s.serviceReset))

end Sys2Proof.Machine
end

