-- ==== Sys2Proof/Machine/Delivery.lean ====
section
/-! DEFINITION. The meanings of the commands at the response channels of the master ports (section 1.7). -/

namespace Sys2Proof.Machine

/-- The slot of master `p` that R14 lets enter DELIVERING, with its record and outcome: its oldest live non-orphan slot, READY, while
none of its slots is in DELIVERING. -/
def State.deliverable (s : State) (p : Master) : Option (SlotIx × Slot × Result) :=
  if (s.deliveringIx p).isSome then none
  else
    match s.oldest p fun _ => true with
    | none => none
    | some k =>
      match s.slot k with
      | none => none
      | some x =>
        match x.phase, x.outcome with
        | .ready, some r => some (k, x, r)
        | _, _ => none

/-- ENTER_DELIVERING (R14): the slot enters DELIVERING with its progress 0 and its timer set, and its first item is offered; it
waits where an item of an earlier response is still on offer. -/
def execEnterDelivering (p : Master) (s : State) : Host.Outcome State Fault Refusal :=
  match s.deliverable p with
  | none => .next s
  | some (k, x, _) =>
    let s1 := s.setSlot k (some { x with phase := .delivering, progress := 0, timer := some s.time.masterTimeout })
    if (s.port p).offer.isSome then .next s1 else .next (s1.offerNext p)

/-- RESPONSE_ITEM_TAKE (R16): the master takes the item on offer. An item of a slot raises its progress and brings the next item, or
frees the slot where it was the final one; a withdrawn item or a CUTOFF answer leaves the channel to the slot in DELIVERING,
where there is one (R14, R18). -/
def execResponseItemTake (p : Master) (s : State) : Host.Outcome State Fault Refusal :=
  match (s.port p).offer with
  | none => .next s
  | some i =>
    if i.ofSlot then
      match s.deliveringIx p with
      | none => .next (s.setPort p { s.port p with offer := none })
      | some k =>
        match s.slot k with
        | none => .next (s.setPort p { s.port p with offer := none })
        | some x =>
          if i.last then .next ((s.freeSlot k).setPort p { s.port p with offer := none }).joinWaiters
          else .next ((s.setSlot k (some { x with progress := x.progress + 1 })).offerNext p)
    else .next (s.offerNext p)

/-- DELIVERING_STALL (R17): the timer of the DELIVERING slot `k` has expired. The slot is freed, the item of its response on offer is
withdrawn (R18), and the STALL is handed over. -/
def execDeliveringStall (k : SlotIx) (s : State) : Host.Outcome State Fault Refusal :=
  match s.slot k with
  | none => .next s
  | some x =>
    if x.phase = .delivering ∧ x.timer = some 0 then
      let m := x.master
      let s1 := s.freeSlot k
      let s2 := s1.setPort m { s1.port m with offer := (s1.port m).offer.map Item.withdraw }
      .next (s2.fault m 8 (.stall m x.tag x.kind .delivering)).joinWaiters
    else .next s

end Sys2Proof.Machine
end

