-- ==== Sys2Proof/Machine/Timebase.lean ====
section
/-! DEFINITION. The timebase (Chapter 9), and the meanings of the commands that TCLK gives and of the two recoveries by count
(R89, R90). -/

namespace Sys2Proof.Machine

/-- R148: what a tick does to the timer of a slot in FILLING or DELIVERING. A timer at 0 has expired, and waits for its expiry to be
taken as an event of its own (notes/assumptions/6.md). -/
def tickSlot (o : Option Slot) : Option Slot :=
  o.map fun x => { x with timer := x.timer.map (· - 1) }

/-- R89: what a tick does to the count of a master: it raises the count where the master is `silent`, and else sets it to 0. -/
def quietCount (silent : Bool) (c : Confinement) : Confinement :=
  if c.recovering .quiet then { c with count := if silent then c.count + 1 else 0 } else c

/-- R95, first line: the next tick would bring the QUIET count of master `m` to 256, and a CUTOFF event is due at its port. The two
reach the recovery together. -/
def State.meetsCutoff (s : State) (m : Master) : Bool :=
  (s.conf m).recovering .quiet && (s.cutoffDue m).isSome && decide (Config.quietTarget ≤ (s.conf m).count + 1)

/-- The QUIET count of master `m` at a tick. A port with a head request makes it 0 (R89). Where the tick meets a CUTOFF event (R95),
the tick is taken first for the master `first`, and counts; for another master a free value says which of the two is
(notes/assumptions/19.md). -/
def State.countOne (first : Option Master) (s : State) (m : Master) : State :=
  if s.meetsCutoff m && first != some m then
    { s.setConf m (quietCount (s.drawPlace 2 == 0) (s.conf m)) with draws := s.draws + 1 }
  else s.setConf m (quietCount ((s.port m).head.isNone || s.meetsCutoff m) (s.conf m))

/-- R89: the QUIET counts at a tick. -/
def State.countQuiet (first : Option Master) (s : State) : State := allMasters.foldl (State.countOne first) s

/-- R89: the masters whose QUIET count a tick has brought to 256 recover within the tick, several of them in either order; a port
that its master's recovery lets meet R30 joins the wait list. That they come before the tick's expiries is the model's
(notes/assumptions/18.md). -/
def State.recoverQuiet (s : State) : State :=
  match s.recovered .quiet Config.quietTarget with
  | [] => s
  | due => (inFreeOrder (fun s m => s.recover m .quiet) 4 due s).joinWaiters

/-- A tick (R147, R148): the divider count returns to 0, every running timer falls by 1, and every QUIET recovery count is updated.
The QUIET recoveries and their records (R89) are taken here, within the tick, and so before every expiry that the tick brings, each
of which is a command of its own; R148 and R157 leave that order open (notes/assumptions/18.md). The tick is known to be taken before
a CUTOFF event that it meets at the port of the master `first` (R95). -/
def State.giveTick (first : Option Master) (s : State) : State :=
  let s1 := { s with
    time := { s.time with count := 0 }
    slots := mapBank tickSlot s.slots
    mem := { s.mem with timer := s.mem.timer.map (· - 1) } }
  (s1.countQuiet first).recoverQuiet

/-- A rising edge of TCLK (R147): the divider count rises by 1, and the edge that brings it to 2 to the power k gives a tick. -/
def State.tclkEdge (s : State) : State :=
  if s.time.count + 1 < 2 ^ s.time.divider then { s with time := { s.time with count := s.time.count + 1 } }
  else s.giveTick none

/-- TICK (R147): the edge that completes the division in progress is reached and a tick is given (notes/assumptions/7.md). While
RESET is asserted there is none (R152). -/
def execTick (s : State) : Host.Outcome State Fault Refusal :=
  if s.resetPin then .next s else .next (s.giveTick none)

/-- TCLK_EDGE (R147): a rising edge of TCLK. While RESET is asserted the divider takes none (R152). -/
def execTclkEdge (s : State) : Host.Outcome State Fault Refusal :=
  if s.resetPin then .next s else .next s.tclkEdge

/-- The next tick brings the QUIET count of master `m` to 256: its port has no head request (R89), or the tick is taken before a
CUTOFF event that it meets there (R95). -/
def State.quietDue (s : State) (m : Master) : Bool :=
  ((s.conf m).recovering .quiet && (s.port m).head.isNone && decide (Config.quietTarget ≤ (s.conf m).count + 1)) || s.meetsCutoff m

/-- QUIET_RECOVERY (R89, R95): the tick that brings the QUIET count of master `m` to 256, taken before a CUTOFF event due at its port.
The head request is then taken by an admission event, not answered CUTOFF. -/
def execQuietRecovery (m : Master) (s : State) : Host.Outcome State Fault Refusal :=
  if !s.resetPin && s.quietDue m then .next (s.giveTick (some m)) else .next s

/-- WITNESS_RECOVERY (R90): the clean completion, by `item`, that brings the WITNESS count of master `m` to 128. -/
def execWitnessRecovery (m : Master) (item : MemoryItem) (s : State) : Host.Outcome State Fault Refusal :=
  if s.completesClean item && (s.conf m).recovering .witness && decide (Config.witnessTarget ≤ (s.conf m).count + 1) then
    .next (s.itemArrives item)
  else .next s

end Sys2Proof.Machine
end

