-- ==== Sys2Proof/Machine/Dispatch.lean ====
section
/-! DEFINITION. The effect of a command on everything but the queue of waiting commands: one arm for each command, each one call of its
meaning. -/

namespace Sys2Proof.Machine

-- One arm for each constructor of Instr, in the table's order.
def exec (i : Instr) (s : State) : Host.Outcome State Fault Refusal :=
  match i with
  | .requestPresentation p r => Sys2Proof.Machine.execRequestPresentation p r s
  | .admissionEvent p => Sys2Proof.Machine.execAdmissionEvent p s
  | .cutoffEvent p => Sys2Proof.Machine.execCutoffEvent p s
  | .writeDataBeat p b => Sys2Proof.Machine.execWriteDataBeat p b s
  | .fillingStall k => Sys2Proof.Machine.execFillingStall k s
  | .enterDelivering p => Sys2Proof.Machine.execEnterDelivering p s
  | .responseItemTake p => Sys2Proof.Machine.execResponseItemTake p s
  | .deliveringStall k => Sys2Proof.Machine.execDeliveringStall k s
  | .pclrAssertion p => Sys2Proof.Machine.execPclrAssertion p s
  | .pclrRelease p => Sys2Proof.Machine.execPclrRelease p s
  | .grant => Sys2Proof.Machine.execGrant s
  | .issueTake => Sys2Proof.Machine.execIssueTake s
  | .writeDataTake => Sys2Proof.Machine.execWriteDataTake s
  | .readBeat word status last => Sys2Proof.Machine.execReadBeat word status last s
  | .writeAcknowledge ok => Sys2Proof.Machine.execWriteAcknowledge ok s
  | .memoryTimeout => Sys2Proof.Machine.execMemoryTimeout s
  | .abortAcknowledge => Sys2Proof.Machine.execAbortAcknowledge s
  | .abortTimeout => Sys2Proof.Machine.execAbortTimeout s
  | .tick => Sys2Proof.Machine.execTick s
  | .quietRecovery m => Sys2Proof.Machine.execQuietRecovery m s
  | .witnessRecovery m item => Sys2Proof.Machine.execWitnessRecovery m item s
  | .commandFrameBegin code => Sys2Proof.Machine.execCommandFrameBegin code s
  | .readAnswerFrame dummies tail => Sys2Proof.Machine.execReadAnswerFrame dummies tail s
  | .unknownCodeFrame bytes tail => Sys2Proof.Machine.execUnknownCodeFrame bytes tail s
  | .readStatus => Sys2Proof.Machine.execReadStatus s
  | .setMode mode => Sys2Proof.Machine.execSetMode mode s
  | .readMaster master => Sys2Proof.Machine.execReadMaster master s
  | .setRecovery master mode => Sys2Proof.Machine.execSetRecovery master mode s
  | .clearScore master => Sys2Proof.Machine.execClearScore master s
  | .isolate master => Sys2Proof.Machine.execIsolate master s
  | .restore master => Sys2Proof.Machine.execRestore master s
  | .writeWindow index live base last rights => Sys2Proof.Machine.execWriteWindow index live base last rights s
  | .readWindow index => Sys2Proof.Machine.execReadWindow index s
  | .setFill fill => Sys2Proof.Machine.execSetFill fill s
  | .setTiming divider masterTimeout memoryTimeout => Sys2Proof.Machine.execSetTiming divider masterTimeout memoryTimeout s
  | .setDeferral d => Sys2Proof.Machine.execSetDeferral d s
  | .readSettings => Sys2Proof.Machine.execReadSettings s
  | .holdMemory => Sys2Proof.Machine.execHoldMemory s
  | .releaseMemory => Sys2Proof.Machine.execReleaseMemory s
  | .restoreMemory => Sys2Proof.Machine.execRestoreMemory s
  | .peekFault => Sys2Proof.Machine.execPeekFault s
  | .popFault => Sys2Proof.Machine.execPopFault s
  | .setRecordMask mask => Sys2Proof.Machine.execSetRecordMask mask s
  | .readAlerts => Sys2Proof.Machine.execReadAlerts s
  | .clearAlerts flags => Sys2Proof.Machine.execClearAlerts flags s
  | .setAlertEnables enables => Sys2Proof.Machine.execSetAlertEnables enables s
  | .readSlot index => Sys2Proof.Machine.execReadSlot index s
  | .resetPart => Sys2Proof.Machine.execResetPart s
  | .powerOnReset => Sys2Proof.Machine.execPowerOnReset s
  | .resetAssertion => Sys2Proof.Machine.execResetAssertion s
  | .resetRelease => Sys2Proof.Machine.execResetRelease s
  | .sselAssertion => Sys2Proof.Machine.execSselAssertion s
  | .sclkRisingEdge sdin => Sys2Proof.Machine.execSclkRisingEdge sdin s
  | .ignoredFrameEnd => Sys2Proof.Machine.execIgnoredFrameEnd s
  | .tclkEdge => Sys2Proof.Machine.execTclkEdge s

end Sys2Proof.Machine
end

