-- ==== Sys2Proof/Machine/Step.lean ====
section
/-! DEFINITION. One step of the unit: the command at the front of the queue is taken and carried out. -/

namespace Sys2Proof.Machine

/-- One step: the command at the front of the queue is carried out on the state with the queue's rest. On an empty queue the unit
idles, but for the falling edge of an SCLK left high (notes/assumptions/1.md, notes/assumptions/8.md). -/
def step (s : State) : Host.Outcome State Fault Refusal :=
  match s.pending with
  | [] => .next s.sclkFall
  | c :: rest => exec c { s with pending := rest }

/-- The host's fixed name: the command that a word spells, put at the front of the queue. No word spells a command, for the opcode
table gives no row any bits, so the state stands. -/
def State.withFetchWord (s : State) (nbits w : Nat) : State :=
  match decodeTableWord nbits w with
  | none => s
  | some c => { s with pending := c :: s.pending }

end Sys2Proof.Machine
end

