-- ==== Sys2Proof/Safety.lean ====
section
/-! DEFINITION. The vocabulary of the statements about the unit: what an event leaves alone, and the invariants that every state of a
run has. Each invariant cites the rule it is taken from; that every step keeps it is an obligation. -/

namespace Sys2Proof.Machine

/-! ### What an event leaves alone -/

/-- No slot but `k` differs. -/
abbrev State.sameSlotsBut (s t : State) (k : SlotIx) : Prop := ∀ j, j ≠ k → t.slot j = s.slot j

/-- No port but `p` differs. -/
abbrev State.samePortsBut (s t : State) (p : Master) : Prop := ∀ q, q ≠ p → t.port q = s.port q

/-- No confinement record but that of `m` differs. -/
abbrev State.sameRecordsBut (s t : State) (m : Master) : Prop := ∀ n, n ≠ m → t.conf n = s.conf n

/-- Nothing but the admission wait list, the wait-listed fields that mirror it and the count of free choices differs. -/
abbrev State.sameButWaiting (s t : State) : Prop :=
  t = { s with waitList := t.waitList, masters := t.masters, draws := t.draws } ∧
    ∀ m, t.conf m = { s.conf m with waitListed := (t.conf m).waitListed }

/-- Nothing but the fault queue and the alert block differs. -/
abbrev State.sameButRecords (s t : State) : Prop := t = { s with queue := t.queue, alerts := t.alerts }

/-! ### The service link -/

/-- The frame of the command `c` can be brought to its end: `f` is that frame, and the link can take it. -/
abbrev State.takesFrame (s : State) (c : Instr) (f : List Byte) : Prop := encodeFrame c = some f ∧ s.accepts f [] = true

/-- The command event of the frame `f` on state `u`, answered with `a`: SSEL is deasserted, SCLK rests low, no frame is in progress,
SDOUT is not driven, FFh has been given for every byte, and the answer is retained (R170, R171, R173). -/
abbrev State.answered (u : State) (f : List Byte) (a : Answer) : State :=
  { u with link := { ssel := false, sclk := false, frame := none, retained := some a, origin := u.link.origin, sdout := none,
                     given := List.replicate f.length 0xFF#8 } }

/-- The state after the bits `bits` have been shifted in, each by its rising edge of SCLK. -/
def State.shiftBits (s : State) (bits : List Bool) : State :=
  bits.foldl
    (fun u b =>
      match exec (.sclkRisingEdge b) u with
      | .next v => v
      | .fault _ => u
      | .refused _ => u)
    s

/-- The state after SSEL has been asserted and the bits `bits` have been shifted in. -/
def State.selectAndShift (s : State) (bits : List Bool) : State :=
  match exec .sselAssertion s with
  | .next u => u.shiftBits bits
  | .fault _ => s
  | .refused _ => s

/-- The commands at which a part reset takes its values (R179, R180). -/
def commandIsReset (c : Instr) : Bool := c == .resetPart || c == .powerOnReset || c == .resetAssertion

/-! ### Invariants -/

/-- R61, R72, R83: score, standing and CUT of each master agree, and a deferral count above 0 belongs to a LIMITED master. -/
abbrev State.ScoresAgree (s : State) : Prop :=
  s.deferral ≤ 15 ∧ ∀ m : Master,
    (s.conf m).score ≤ 256 ∧
    ((s.conf m).standing = .isolated ↔ (s.conf m).score = 256) ∧
    ((s.conf m).standing = .limited ↔ 128 ≤ (s.conf m).score ∧ (s.conf m).score ≤ 255) ∧
    ((s.conf m).standing = .active ↔ (s.conf m).score < 128) ∧
    ((s.port m).cut = true ↔ (s.conf m).standing = .isolated) ∧
    (s.conf m).deferral ≤ 15 ∧
    ((s.conf m).standing ≠ .limited → (s.conf m).deferral = 0)

/-- The bound of a recovery count below the recovery itself (R88). -/
def RecoveryMode.bound (r : RecoveryMode) : Nat :=
  match r with
  | .quiet => 255
  | .witness => 127
  | .manual => 0

/-- R88, R91: a count is 0 but for an ISOLATED master, has not reached its recovery, and is 0 in MANUAL. -/
abbrev State.CountsBounded (s : State) : Prop :=
  ∀ m : Master, (s.conf m).count ≤ (s.conf m).recovery.bound ∧ ((s.conf m).standing ≠ .isolated → (s.conf m).count = 0)

/-- The buffer words that slot `k` holds. -/
def State.reservedAt (s : State) (k : SlotIx) : Nat :=
  match s.slot k with
  | none => 0
  | some x => x.reserved

/-- R28: the free count of the data buffer is 64 minus the reserved words of all live slots. -/
abbrev State.BufferAccounted (s : State) : Prop := s.freeWords + (allSlots.map s.reservedAt).sum = 64

/-- R12: a master holds no more than four non-orphan slots, and an ISOLATED master holds none. -/
abbrev State.LimitsKept (s : State) : Prop :=
  ∀ m : Master, s.held m ≤ 4 ∧ ((s.conf m).standing = .isolated → s.held m = 0)

/-- R158: the sequence number of `b`, with lost count `lost`, follows that of `a`. -/
abbrev follows (a b : BitVec 16) (lost : Nat) : Prop := lost < 65535 → b = a + 1#16 + BitVec.ofNat 16 lost

/-- R158: the sequence numbers of a run of stored records. -/
def numbered : List FaultRecord → Bool
  | [] => true
  | [_] => true
  | a :: b :: l => decide (follows a.sequence b.sequence b.lost) && numbered (b :: l)

/-- R154, R158, R165, R167: at most 32 records, numbered with their losses, the next number after the newest record and the losses
since; QUEUE set exactly when a record is stored; ALERT asserted exactly when an enabled flag is set. -/
abbrev State.QueueNumbered (s : State) : Prop :=
  s.queue.records.length ≤ 32 ∧ s.queue.lost ≤ 65535 ∧ numbered s.queue.records = true ∧
    (∀ r ∈ s.queue.records.getLast?, follows r.sequence s.queue.nextSeq s.queue.lost) ∧
    (s.alerts.flags.queue = true ↔ s.queue.records ≠ []) ∧
    s.alerts.line = alertLevel s.alerts.flags s.alerts.enables

/-- R30, R60: the wait list holds no port twice and no port of an ISOLATED master, and the wait-listed fields mirror it. -/
abbrev State.WaitListSound (s : State) : Prop :=
  s.waitList.Nodup ∧ s.waitList.length ≤ 4 ∧
    ∀ m : Master, ((s.conf m).waitListed = true ↔ m ∈ s.waitList) ∧ (m ∈ s.waitList → (s.conf m).standing ≠ .isolated)

/-- R22: a write-data list holds at most four entries, and each fill entry names a slot in FILLING of its own master, no slot
twice. -/
abbrev State.FillsSound (s : State) : Prop :=
  ∀ p : Master, (s.port p).writeList.length ≤ 4 ∧ ((s.port p).writeList.filter (· != .discard)).Nodup ∧
    ∀ k : SlotIx, ListEntry.fill k ∈ (s.port p).writeList →
      (s.slot k).any (fun x => x.phase == .filling && x.master == p) = true

/-- The number of slots in phase `f`. -/
def State.countPhase (s : State) (f : Phase) : Nat := allSlots.countP fun k => (s.slot k).any fun x => x.phase == f

/-- R113: what the memory port holds beside its state, by its state. That no issue is offered outside BUSY is the model's
(notes/assumptions/11.md). -/
def MemPort.sound (p : MemPort) : Bool :=
  match p.state with
  | .idle => !p.holdPending && !p.abort && p.timer.isNone && !p.issueOffered
  | .busy => !p.abort && p.timer.isSome
  | .draining => p.abort && p.timer.isSome && !p.issueOffered
  | .held => !p.holdPending && !p.abort && p.timer.isNone && !p.issueOffered
  | .failed => !p.holdPending && p.timer.isNone && !p.issueOffered

/-- R135: the memory scores that each memory standing can have. -/
def Health.sound (h : Health) : Bool :=
  match h.standing with
  | .sound => decide (h.score ≤ 95)
  | .doubtful => decide (64 ≤ h.score) && decide (h.score ≤ 191)
  | .failed => decide (192 ≤ h.score) && decide (h.score ≤ 255)

/-- R3, R22, R113, R135, R137: the memory port is BUSY exactly when one slot is ISSUED, which no two are; every orphan is ISSUED; the
port is FAILED exactly when the memory standing is, and no slot is then QUEUED; with what FillsSound says. -/
abbrev State.PortAgrees (s : State) : Prop :=
  s.FillsSound ∧ s.countPhase .issued = (if s.mem.state = .busy then 1 else 0) ∧
    (∀ k : SlotIx, (s.slot k).all (fun x => !x.orphan || x.phase == .issued) = true) ∧
    (s.mem.state = .failed ↔ s.health.standing = .failed) ∧
    (s.health.standing = .failed → s.countPhase .queued = 0) ∧
    s.mem.sound = true ∧ s.health.sound = true

/-- R2, R5, R15, R29, R33, R116: the words and enables that a slot holds in its reservation, by its phase, beside its outcome. An
allowed write in FILLING holds one word and its enables for each beat taken, a refused one none; a QUEUED read holds none and an ISSUED
one a word for each of the `received` beats; a write at either holds all its beats; and a READY or DELIVERING read that is not PROTOCOL
holds the word of every beat. -/
def Slot.wordsKept (x : Slot) (received : Nat) : Bool :=
  match x.phase with
  | .filling =>
    x.kind == .write && decide (x.progress < x.beats.val) &&
      (if x.outcome = none then x.words.length == x.progress && x.enables.length == x.progress
       else x.words.isEmpty && x.enables.isEmpty)
  | .queued =>
    x.outcome == none &&
      match x.kind with
      | .read => x.words.isEmpty && x.progress == 0 && x.reserved == x.beats.val
      | .write => x.words.length == x.beats.val && x.enables.length == x.beats.val && x.progress == x.beats.val
  | .issued =>
    x.outcome == none &&
      match x.kind with
      | .read =>
        x.words.length == received && x.progress == received && decide (received ≤ x.beats.val) && x.reserved == x.beats.val
      | .write => x.words.length == x.beats.val && x.enables.length == x.beats.val && x.progress == x.beats.val
  | .ready => x.outcome.any fun r => !x.carriesData r || x.words.length == x.beats.val
  | .delivering => x.outcome.any fun r => !x.carriesData r || x.words.length == x.beats.val

/-- R29: every live slot holds the words that its phase and its beats give. -/
abbrev State.WordsKept (s : State) : Prop :=
  ∀ k : SlotIx, (s.slot k).all (fun x => x.wordsKept s.mem.received) = true

/-- R43, R146: every window entry has its base at or below its last, and the timebase holds values in its ranges. -/
abbrev State.SettingsInRange (s : State) : Prop :=
  (∀ i : WindowIx, (s.window i).base.toNat ≤ (s.window i).last.toNat) ∧
    s.time.divider ≤ 8 ∧ s.time.count < 2 ^ s.time.divider ∧ 1 ≤ s.time.masterTimeout ∧ s.time.masterTimeout ≤ 255 ∧
    1 ≤ s.time.memoryTimeout ∧ s.time.memoryTimeout ≤ 255

/-- A command frame is under way: its first byte is completed and is not 00h (R171). -/
def Link.inCommandFrame (l : Link) : Bool :=
  match l.frame with
  | none => false
  | some f => isCommandFrame f.bytes

/-- R170, R171: a frame is in progress only while SSEL is asserted, with 0 to 7 bits beside its completed bytes, of which the first
eleven are kept; there is no retained answer exactly while a command frame is under way. -/
abbrev State.LinkSound (s : State) : Prop :=
  (s.link.ssel = false → s.link.frame = none ∧ s.link.sdout = none) ∧
    (∀ f ∈ s.link.frame, f.bits.length < 8 ∧ f.bytes.length = min 11 f.count) ∧
    (s.link.retained = none ↔ s.link.inCommandFrame = true)

end Sys2Proof.Machine
end

