-- ==== Sys2Proof/Certificates/Slice0/Obligations.lean ====
section
/-! DEFINITION. The statements for the provers. Each docstring names the rules of spec/ a statement is taken from. -/

open Sys2Proof Sys2Proof.Machine

/-! ### The queue of commands -/

/-- A step carries out the command at the front of the queue on the state with the queue's rest. On an empty queue the unit idles: where
SCLK is high it takes the falling edge, which changes the link and the count of free values alone, and else the state stands. The
queue, and that the falling edge comes while it is empty, are the model's (notes/assumptions/1.md, notes/assumptions/8.md). -/
def Obligations.FrontCommandIsCarriedOut : Prop :=
  (∀ (s : State) (c : Instr) (rest : List Instr), s.pending = c :: rest → step s = exec c { s with pending := rest }) ∧
    ∀ s : State, s.pending = [] →
      (s.link.sclk = false → step s = .next s) ∧
      (s.link.sclk = true → step s = .next s.sclkFall ∧
        s.sclkFall = { s with link := { s.link with sclk := false, sdout := s.sclkFall.link.sdout }, draws := s.sclkFall.draws })

/-- No command stops the unit, and none touches the queue of waiting commands. An operation or event whose conditions do not hold leaves
the state as it stands. The conditions that fail are spelled out command by command: R8, R14, R16, R17 (delivery), R12, R21, R23, R31
(presentation and admission), R33, R37, R38 (write data, stall, CUTOFF), R40, R41 (the edges of PCLR), R101 (no grant at a port that is
not IDLE), R114, R116, R118, R120, R123, R125, R126 (the memory port), R89, R90, R95, R152 (ticks and recoveries), R170 to R175, R181,
R182 (the link and RESET). That nothing stops, and that such a command leaves the state, are the model's (notes/assumptions/15.md,
notes/assumptions/2.md); that a link command stands for the rest of its frame is in notes/assumptions/3.md, that the two recoveries are
the tick and the completion in notes/assumptions/7.md, that a tick with a head request recovers a master where its CUTOFF event is due
(R95), and not elsewhere, in notes/assumptions/19.md, and that a LIMITED master which holds a slot is not admitted, against the first line
of the table of R74, in notes/assumptions/17.md. The queue is the model's own (notes/assumptions/1.md). -/
def Obligations.EveryCommandAnswersANextState : Prop :=
  (∀ (c : Instr) (s : State), ∃ t : State, exec c s = .next t ∧ t.pending = s.pending) ∧
  ∀ (c : Instr) (s : State),
    let owned : Master → SlotIx → Slot → Prop := fun p k x => s.slot k = some x ∧ x.master = p ∧ x.orphan = false
    let held : Master → Nat := fun p => allSlots.countP fun k => (s.slot k).any fun x => x.master == p && !x.orphan
    let unfit : List Byte → List Bool → Prop := fun bytes tail =>
      s.resetPin = true ∨ s.link.ssel = true ∧ ∀ f : Frame, s.link.frame = some f →
        bytes.length < f.count ∨ f.bytes ≠ (bytes.take f.count).take 11 ∨ ¬f.bits <+: bytesBits (bytes.drop f.count) ++ tail
    (match c with
      | .requestPresentation p _ => (s.port p).head ≠ none ∨ (s.port p).waiting ≠ none
      | .admissionEvent p =>
        ∀ r : Request, (s.port p).head = some r →
          s.resetPin = true ∨ (s.port p).pclr = true ∨ (s.conf p).standing = .isolated ∨ (∀ k, s.slot k ≠ none) ∨
          (if (s.conf p).standing = .active then 4 else 1) ≤ held p ∨
          (∃ k x, owned p k x ∧ s.counter p + 1#8 = x.admission) ∨
          (r.kind = .write ∧ 4 ≤ (s.port p).writeList.length) ∨ s.freeWords < s.need p r ∨
          (s.waitList ≠ [] ∧ s.waitList.head? ≠ some p)
      | .cutoffEvent p =>
        ∀ r : Request, (s.port p).head = some r →
          (s.conf p).standing ≠ .isolated ∨ s.resetPin = true ∨ (s.port p).pclr = true ∨ (s.port p).offer ≠ none ∨
          (r.kind = .write ∧ 4 ≤ (s.port p).writeList.length)
      | .writeDataBeat p _ => s.resetPin = true ∨ (s.port p).pclr = true ∨ (s.port p).writeList = []
      | .fillingStall k => ∀ x, s.slot k = some x → x.phase ≠ .filling ∨ x.timer ≠ some 0
      | .enterDelivering p =>
        (∃ k x, owned p k x ∧ x.phase = .delivering) ∨
        ∀ k x, owned p k x → x.phase = .ready →
          ∃ j y, owned p j y ∧ (s.counter p - x.admission).toNat < (s.counter p - y.admission).toNat
      | .responseItemTake p => (s.port p).offer = none
      | .deliveringStall k => ∀ x, s.slot k = some x → x.phase ≠ .delivering ∨ x.timer ≠ some 0
      | .pclrAssertion p => (s.port p).pclr = true
      | .pclrRelease p => (s.port p).pclr = false
      | .grant => s.mem.state ≠ .idle ∨ ∀ k x, s.slot k = some x → x.phase ≠ .queued
      | .issueTake => s.mem.issueOffered = false
      | .writeDataTake =>
        s.mem.state ≠ .busy ∨
        ∀ k x, s.slot k = some x → x.phase = .issued → x.kind = .read ∨ x.beats.val ≤ s.mem.taken
      | .readBeat _ _ _ => s.mem.state ≠ .busy ∨ ∀ k x, s.slot k = some x → x.phase = .issued → x.kind = .write
      | .writeAcknowledge _ => s.mem.state ≠ .busy ∨ ∀ k x, s.slot k = some x → x.phase = .issued → x.kind = .read
      | .memoryTimeout => s.mem.state ≠ .busy ∨ s.mem.timer ≠ some 0 ∨ ∀ k x, s.slot k = some x → x.phase ≠ .issued
      | .abortAcknowledge => s.mem.state ≠ .draining
      | .abortTimeout => s.mem.state ≠ .draining ∨ s.mem.timer ≠ some 0
      | .tick | .tclkEdge => s.resetPin = true
      | .quietRecovery m =>
        s.resetPin = true ∨ (s.conf m).standing ≠ .isolated ∨ (s.conf m).recovery ≠ .quiet ∨ (s.conf m).count < 255 ∨
        ∃ r, (s.port m).head = some r ∧
          ((s.port m).pclr = true ∨ (s.port m).offer ≠ none ∨ (r.kind = .write ∧ 4 ≤ (s.port m).writeList.length))
      | .witnessRecovery m item =>
        (s.conf m).standing ≠ .isolated ∨ (s.conf m).recovery ≠ .witness ∨ (s.conf m).count < 127 ∨
        s.completesClean item = false
      | .commandFrameBegin code =>
        code = 0#8 ∨ s.resetPin = true ∨ s.link.ssel = true ∧ ∀ f : Frame, s.link.frame = some f →
          f.count ≠ 0 ∨ ¬f.bits <+: byteBits code
      | .readAnswerFrame dummies tail => 8 ≤ tail.length ∨ unfit (0x00#8 :: dummies) tail
      | .unknownCodeFrame bytes tail =>
        isCommandFrame bytes = false ∨ 8 ≤ tail.length ∨ unfit bytes tail ∨ decodeFrame bytes tail ≠ none
      | .readStatus | .setMode _ | .readMaster _ | .setRecovery _ _ | .clearScore _ | .isolate _ | .restore _
      | .writeWindow _ _ _ _ _ | .readWindow _ | .setFill _ | .setTiming _ _ _ | .setDeferral _ | .readSettings
      | .holdMemory | .releaseMemory | .restoreMemory | .peekFault | .popFault | .setRecordMask _ | .readAlerts
      | .clearAlerts _ | .setAlertEnables _ | .readSlot _ | .resetPart => ∃ f, encodeFrame c = some f ∧ unfit f []
      | .resetAssertion => s.resetPin = true
      | .resetRelease => s.resetPin = false
      | .sselAssertion => s.link.ssel = true
      | .ignoredFrameEnd => s.link.ssel = false ∨ ∃ f : Frame, s.link.frame = some f ∧ f.count ≠ 0
      | .sclkRisingEdge _ | .powerOnReset => False) →
    exec c s = .next s

/-! ### The service link -/

/-- Tables 13-1 and 13-2, R172: the frame of every command decodes to that command, with every argument at every value. -/
def Obligations.FramesDecodeToTheirCommand : Prop :=
  ∀ (c : Instr) (f : List Byte), encodeFrame c = some f → decodeFrame f [] = some c

/-- R172, R173: a frame that lines 1 to 6 of R173 accept ends with whole bytes and is the one frame of the command it carries. -/
def Obligations.DecodedFramesAreTheEncodedOnes : Prop :=
  ∀ (bytes : List Byte) (tail : List Bool) (c : Instr),
    decodeFrame bytes tail = some c → tail = [] ∧ encodeFrame c = some bytes

/-- Frames written out byte by byte from Tables 13-1 and 13-2, one for each group of codes. -/
def Obligations.WrittenOutFramesDecode : Prop :=
  decodeFrame [0x01#8, 0xFF#8] [] = some .readStatus ∧
  decodeFrame [0x06#8, 0x0B#8, 0xEF#8] [] = some (.readSlot 11#8) ∧
  decodeFrame [0x12#8, 0x12#8, 0x34#8, 0x56#8, 0x78#8, 0xDA#8] [] = some (.setFill 0x12345678#32) ∧
  decodeFrame [0x15#8, 0x06#8, 0xFF#8, 0xE6#8] [] = some (.setRecordMask 0x06FF#16) ∧
  decodeFrame [0x18#8, 0x02#8, 0x01#8, 0x01#8, 0x86#8, 0xA0#8, 0x03#8, 0x0D#8, 0x3F#8, 0xAA#8, 0xC5#8] [] =
    some (.writeWindow 2#8 1#8 100000#24 199999#24 0xAA#8) ∧
  decodeFrame [0x21#8, 0x03#8, 0x02#8, 0xDA#8] [] = some (.setRecovery 3#8 2#8) ∧
  decodeFrame [0x3C#8, 0xC4#8] [] = some .resetPart ∧
  decodeFrame [0x3C#8, 0xC5#8] [] = none ∧
  decodeFrame [0x01#8, 0xFF#8] [true] = none

/-- R170 to R173: a command frame shifted in bit by bit, up to any of its bits, and then brought to its end is the same command event
as the frame taken whole. That a command stands for the rest of its frame is the model's (notes/assumptions/3.md). -/
def Obligations.ShiftedBitsAreTheCommand : Prop :=
  ∀ (s : State) (c : Instr) (f : List Byte) (n : Nat),
    encodeFrame c = some f → s.link.ssel = false → s.resetPin = false →
      exec c (s.selectAndShift ((bytesBits f).take n)) = exec c s

/-- R170, R175: a read-answer frame shifted in bit by bit gives FFh and then the bytes of the retained answer on SDOUT, most
significant bit first, with FFh beyond them, and may end with bits of a byte not completed. SDOUT shows the next bit from the
falling edge of SCLK to the falling edge after it, so a rising edge leaves the bit that it samples beside. The end of the frame changes
nothing but the lines of the link. When the falling edge comes, and that READ_ANSWER_FRAME stands for the rest of its frame, from a
deasserted SSEL for the whole of it, are the model's (notes/assumptions/8.md, notes/assumptions/3.md). -/
def Obligations.ShiftedBitsGiveTheAnswer : Prop :=
  ∀ (s : State) (a : Answer) (dummies : List Byte) (tail : List Bool), tail.length < 8 →
    s.link.ssel = false → s.resetPin = false → s.link.retained = some a →
      let bits := bytesBits (0x00#8 :: dummies) ++ tail
      let given : Nat → Byte := fun i => if i = 0 then 0xFF#8 else a.bytes.getD (i - 1) 0xFF#8
      let ended : State :=
        { s with link := { s.link with ssel := false, sclk := false, frame := none, sdout := none
                                       given := (List.range (dummies.length + 1)).map given } }
      (∀ n, n ≤ bits.length →
        (s.selectAndShift (bits.take n)).sclkFall.link.sdout = (byteBits (given (n / 8)))[n % 8]?) ∧
      (∀ n, n < bits.length →
        (s.selectAndShift (bits.take (n + 1))).link.sdout = (byteBits (given (n / 8)))[n % 8]? ∧
        (s.selectAndShift (bits.take (n + 1))).link.sclk = true) ∧
      (s.selectAndShift bits).link.given = (List.range (dummies.length + 1)).map given ∧
      exec (.readAnswerFrame dummies tail) (s.selectAndShift bits) = .next ended ∧
      exec (.readAnswerFrame dummies tail) s = .next ended

/-- R170, R171, R181, R182, R186: the events at the link's own lines. The assertion of SSEL starts a frame without bytes and drives SDOUT
with the first bit of FFh. A rising edge of SCLK samples one bit, the eighth completes a byte, and a first byte other than 00h discards
the retained answer; a falling edge gives the next bit on SDOUT: FFh in the first byte and in a command frame, the retained answer in a
read-answer frame. With SSEL deasserted, in a frame ignored since a reset, or under an asserted RESET no bit is taken, and under RESET
SDOUT stays as it is, but that a deassertion of SSEL leaves it not driven, under RESET too: that, and the free SDOUT of an ignored frame,
are the model's (notes/assumptions/5.md). A frame that ends before its first byte, or is ignored, is dropped. Each leaves everything but
the link, and the count of free values, as it stands. That COMMAND_FRAME_BEGIN stands for the rest of the first byte, from a deasserted
SSEL for the whole of it, is the model's (notes/assumptions/3.md); so is when the falling edge comes (notes/assumptions/8.md). -/
def Obligations.LinkLineEvents : Prop :=
  (∀ s : State, s.resetPin = false →
    (s.link.ssel = false →
      exec .sselAssertion s =
        .next { s with link := { s.link with ssel := true, frame := some ⟨[], 0, []⟩, sdout := some true, given := [] } }) ∧
    (∀ (f : Frame) (b : Bool), s.link.ssel = true → s.link.frame = some f →
      ∃ t : State, exec (.sclkRisingEdge b) s = .next t ∧ t.link.sclk = true ∧ t.link.sdout = s.sclkFall.link.sdout ∧
        (f.bits.length < 7 →
          t.link.frame = some { f with bits := f.bits ++ [b] } ∧
          t = { s with link := { s.link with frame := t.link.frame, sclk := true, sdout := t.link.sdout } }) ∧
        (f.bits.length = 7 →
          t.link.frame = some { bytes := if f.count < 11 then f.bytes ++ [bitsByte (f.bits ++ [b])] else f.bytes
                                count := f.count + 1, bits := [] } ∧
          t.link.retained = (if f.count = 0 ∧ bitsByte (f.bits ++ [b]) ≠ 0#8 then none else s.link.retained) ∧
          t = { s with link := { s.link with frame := t.link.frame, sclk := true, sdout := t.link.sdout
                                             retained := t.link.retained, given := t.link.given } })) ∧
    (∀ f : Frame, s.link.ssel = true → s.link.frame = some f → s.link.sclk = true →
      ∃ bit : Bool, s.sclkFall = { s with link := { s.link with sclk := false, sdout := some bit } } ∧
        (f.count = 0 ∨ isCommandFrame f.bytes = true → bit = true) ∧
        (∀ (a : Answer) (rest : List Byte), 0 < f.count → f.bytes = 0x00#8 :: rest → s.link.retained = some a →
          bit = (a.bytes.getD (f.count - 1) 0xFF#8).getLsbD (7 - f.bits.length))) ∧
    (∀ b : Bool, s.link.ssel = false → exec (.sclkRisingEdge b) s = .next (s.setSclk true)) ∧
    (∀ code : Byte, code ≠ 0#8 →
      (s.link.ssel = false ∨
        s.link.ssel = true ∧ ∃ bits : List Bool, s.link.frame = some ⟨[], 0, bits⟩ ∧ bits.length < 8 ∧ bits <+: byteBits code) →
      exec (.commandFrameBegin code) s =
        .next { s with link := { s.link with ssel := true, sclk := true, frame := some ⟨[code], 1, []⟩, retained := none
                                             sdout := some true, given := [0xFF#8] } }) ∧
    (∀ f : Frame, s.link.ssel = true → s.link.frame = some f → f.count = 0 →
      exec .ignoredFrameEnd s =
        .next { s with link := { s.link with ssel := false, sclk := false, frame := none, sdout := none } }) ∧
    (s.link.ssel = true → s.link.frame = none →
      (∀ b : Bool, ∃ t : State, exec (.sclkRisingEdge b) s = .next t ∧
        t = { s with link := { s.link with sclk := true, sdout := t.link.sdout }, draws := t.draws }) ∧
      (∀ code : Byte, exec (.commandFrameBegin code) s = .next s))) ∧
  (∀ s : State, s.resetPin = true →
    (s.link.ssel = false →
      exec .sselAssertion s = .next { s with link := { s.link with ssel := true, frame := none } }) ∧
    (∀ b : Bool, exec (.sclkRisingEdge b) s = .next (s.setSclk true)) ∧
    (s.link.sclk = true → s.sclkFall = s.setSclk false) ∧
    (∀ code : Byte, exec (.commandFrameBegin code) s = .next s)) ∧
  (∀ s : State, s.link.ssel = true →
    exec .sselAssertion s = .next s ∧
    (s.link.frame = none →
      exec .ignoredFrameEnd s = .next { s with link := { s.link with ssel := false, sclk := false, sdout := none } }))

/-- Table 13-1, R173, lines 1 to 6: the codes that name a command, with their frame lengths. A command frame that ends with bits of a byte
not completed, is longer than eleven bytes, or is of the wrong length or sum for its code is answered FRAME; one whose code names no
command is answered UNKNOWN where its sum is 0. Nothing else changes. -/
def Obligations.RefusedFramesAreAnswered : Prop :=
  (∀ code : Byte, frameLength code =
    [(0x01#8, 2), (0x02#8, 2), (0x03#8, 2), (0x04#8, 3), (0x05#8, 3), (0x06#8, 3), (0x07#8, 2), (0x08#8, 2), (0x11#8, 3),
     (0x12#8, 6), (0x13#8, 5), (0x14#8, 3), (0x15#8, 4), (0x16#8, 3), (0x17#8, 3), (0x18#8, 11), (0x21#8, 4), (0x22#8, 3),
     (0x23#8, 3), (0x24#8, 3), (0x31#8, 2), (0x32#8, 2), (0x33#8, 2), (0x3C#8, 2)].lookup code) ∧
  ∀ (s : State) (bytes : List Byte) (tail : List Bool),
    isCommandFrame bytes = true → tail.length < 8 → s.accepts bytes tail = true →
      (tail ≠ [] ∨ 11 < bytes.length →
        exec (.unknownCodeFrame bytes tail) s = .next (s.answered bytes ⟨.frame, []⟩)) ∧
      (tail = [] → bytes.length ≤ 11 → frameLength (bytes.headD 0#8) = none →
        exec (.unknownCodeFrame bytes tail) s =
          .next (s.answered bytes ⟨if byteSum bytes = 0#8 then .unknown else .frame, []⟩)) ∧
      (∀ n, tail = [] → bytes.length ≤ 11 → frameLength (bytes.headD 0#8) = some n →
        (bytes.length ≠ n ∨ byteSum bytes ≠ 0#8) →
          exec (.unknownCodeFrame bytes tail) s = .next (s.answered bytes ⟨.frame, []⟩))

/-- R156, R172, R174, R189, R190, Tables 13-2 to 13-6: the bytes of every frame and every answer sum to 0 modulo 256, a frame has the
length of its code, and the answer with data of each reading command has its fixed length. The coded items have the codes of Tables 13-2,
13-4a and 13-6 and section 13.2; the rights byte and the flags byte have the bits of Table 13-2; and a fault record of each kind is the
sixteen bytes of Table 13-4, with the kind code of Table 13-5 and the markers of R190 for what its kind does not carry. -/
def Obligations.FramesAndAnswersCheck : Prop :=
  (∀ a : Answer, byteSum a.bytes = 0#8) ∧
  (∀ (c : Instr) (f : List Byte), encodeFrame c = some f →
    byteSum f = 0#8 ∧ frameLength (f.headD 0#8) = some f.length ∧ isCommandFrame f = true) ∧
  (∀ (s : State) (m : Master) (i : WindowIx) (k : SlotIx) (r : FaultRecord),
    (Answer.mk .ok s.statusData).bytes.length = 15 ∧ (Answer.mk .ok (s.masterData m)).bytes.length = 11 ∧
    (Answer.mk .ok (s.window i).data).bytes.length = 10 ∧ (Answer.mk .ok s.settingsData).bytes.length = 12 ∧
    (Answer.mk .ok s.alertData).bytes.length = 6 ∧ (Answer.mk .ok r.bytes).bytes.length = 18 ∧
    (Answer.mk .ok (s.slotData k)).bytes.length = 20) ∧
  (∀ (status : AnswerStatus) (d : List Byte), ∃ check, (Answer.mk status d).bytes = status.code :: d ++ [check]) ∧
  ([AnswerStatus.none, .ok, .empty, .state, .range, .unknown, .frame].map (·.code) = [0#8, 1#8, 2#8, 3#8, 4#8, 5#8, 6#8] ∧
    [Mode.pass, .guarded].map (·.code) = [0#8, 1#8] ∧ [RecoveryMode.quiet, .witness, .manual].map (·.code) = [0#8, 1#8, 2#8] ∧
    [Right.none, .read, .readWrite].map (·.code) = [0#8, 1#8, 2#8] ∧
    [Origin.power, .pin, .service].map (·.code) = [0#8, 1#8, 2#8] ∧
    [PortState.idle, .busy, .draining, .held, .failed].map (·.code) = [0#8, 1#8, 2#8, 3#8, 4#8] ∧
    [MemStanding.sound, .doubtful, .failed].map (·.code) = [0#8, 1#8, 2#8] ∧
    [Standing.active, .limited, .isolated].map (·.code) = [0#8, 1#8, 2#8] ∧
    [Phase.filling, .queued, .issued, .ready, .delivering].map (·.code) = [1#8, 2#8, 3#8, 4#8, 5#8] ∧
    [Kind.read, .write].map kindCode = [0#8, 1#8] ∧
    [Result.done, .denied, .unmapped, .protocol, .memfault, .timeout].map (·.code) = [0#8, 1#8, 2#8, 3#8, 4#8, 5#8] ∧
    [ProtocolCause.beats, .range, .tag, .short, .long].map (·.code) = [0#8, 1#8, 2#8, 3#8, 4#8] ∧
    [StandingCause.score, .service, .quiet, .witness].map (·.code) = [0#8, 1#8, 2#8, 3#8] ∧
    [MemoryFaultCause.bad, .writeFail].map (·.code) = [0#8, 1#8] ∧
    [MemoryCause.score, .abortTimeout, .service].map (·.code) = [0#8, 1#8, 2#8] ∧
    [StallPhase.filling, .delivering].map (·.code) = [0#8, 1#8] ∧
    [Status.done, .denied, .unmapped, .protocol, .memfault, .timeout, .cutoff].map (·.code) = [0#3, 1#3, 2#3, 3#3, 4#3, 5#3, 6#3]) ∧
  (∀ (v : Vector Right 4) (m : Master), (rightsByte v).extractLsb' (2 * m.val) 2 = (v[m]).code.extractLsb' 0 2) ∧
  (∀ (a : AlertSet) (n : Nat), a.byte.getLsbD n = ([a.queue, a.standing, a.recovery, a.memory, a.loss, a.held][n]?).getD false) ∧
  ∀ (q : BitVec 16) (lost n : Nat) (m : Master) (t : Tag) (k : Kind) (a : Addr) (w : WindowIx) (orphan : Bool),
    let bytes : RecordBody → List Byte := fun b => (FaultRecord.mk q lost b).bytes
    let head : Byte → List Byte := fun code => halfBytes q ++ [code] ++ halfBytes (BitVec.ofNat 16 lost)
    let who : List Byte := [BitVec.ofNat 8 m.val, BitVec.ofNat 8 t.val]
    let where' : Byte → Option Addr → List Byte := fun rw address =>
      match address with
      | some x => rw :: addrBytes x
      | none => [rw ||| 0x80#8, 0x00#8, 0x00#8, 0x00#8]
    let nowhere : List Byte := [0xFF#8, 0x00#8, 0x00#8, 0x00#8]
    let flag : Byte := if orphan then 1#8 else 0#8
    let score : List Byte := halfBytes (BitVec.ofNat 16 n)
    bytes (.denied m t k a w n) =
      head 0x00#8 ++ who ++ (kindCode k :: addrBytes a) ++ [BitVec.ofNat 8 w.val, 0xFF#8, 0xFF#8] ++ score ∧
    bytes (.unmapped m t k a n) = head 0x01#8 ++ who ++ (kindCode k :: addrBytes a) ++ [0xFF#8, 0xFF#8, 0xFF#8] ++ score ∧
    (∀ (c : ProtocolCause) (o : Option Addr),
      bytes (.protocol m t k c o n) = head 0x02#8 ++ who ++ where' (kindCode k) o ++ [0xFF#8, c.code, 0xFF#8] ++ score) ∧
    (∀ p : StallPhase,
      bytes (.stall m t k p n) = head 0x03#8 ++ who ++ where' (kindCode k) none ++ [p.code, 0xFF#8, 0xFF#8] ++ score) ∧
    (∀ (old new : Standing) (c : StandingCause) (dropped : Option Nat),
      bytes (.standing m old new c n dropped) =
        head 0x04#8 ++ [BitVec.ofNat 8 m.val, 0xFF#8] ++ nowhere ++
          [(dropped.map (BitVec.ofNat 8)).getD 0xFF#8, c.code, BitVec.ofNat 8 (16 * old.code.toNat + new.code.toNat)] ++ score) ∧
    (∀ d : Nat,
      bytes (.portCleared m d) =
        head 0x05#8 ++ [BitVec.ofNat 8 m.val, 0xFF#8] ++ nowhere ++ [BitVec.ofNat 8 d, 0xFF#8, 0xFF#8, 0xFF#8, 0xFF#8]) ∧
    (∀ o : Option Addr,
      bytes (.memoryTimeout m t k o orphan n) =
        head 0x06#8 ++ who ++ where' (kindCode k) o ++ [flag, 0xFF#8, 0xFF#8] ++ score) ∧
    (∀ (o : Option Addr) (c : MemoryFaultCause),
      bytes (.memoryFault m t k o orphan c n) =
        head 0x07#8 ++ who ++ where' (kindCode k) o ++ [flag, c.code, 0xFF#8] ++ score) ∧
    (∀ o : Option Addr,
      bytes (.memoryCorrected m t o orphan n) = head 0x08#8 ++ who ++ where' 0x00#8 o ++ [flag, 0xFF#8, 0xFF#8] ++ score) ∧
    (∀ (old new : MemStanding) (c : MemoryCause),
      bytes (.memoryStanding old new c n) =
        head 0x09#8 ++ [0xFF#8, 0xFF#8] ++ nowhere ++
          [0xFF#8, c.code, BitVec.ofNat 8 (16 * old.code.toNat + new.code.toNat)] ++ score) ∧
    ∀ mode : Mode,
      bytes (.mode mode) = head 0x0A#8 ++ [0xFF#8, 0xFF#8] ++ nowhere ++ [mode.code, 0xFF#8, 0xFF#8, 0xFF#8, 0xFF#8]

/-! ### Reading commands -/

/-- R57, R77, R168, R176 to R178, R190, Table 13-3: the reading commands answer OK with the state held at the command event, in the order of
their layouts, or RANGE where READ MASTER, READ WINDOW or READ SLOT names a number out of range; a FREE slot is given with its phase
alone. They change nothing but the link. -/
def Obligations.ReadingCommandsAnswer : Prop :=
  (∀ (s : State) (f : List Byte),
    (s.takesFrame .readStatus f →
      exec .readStatus s = .next (s.answered f ⟨.ok,
        [s.mode.code, s.link.origin.code, s.mem.state.code, boolByte s.mem.holdPending, s.health.standing.code,
         BitVec.ofNat 8 s.health.score, BitVec.ofNat 8 (allSlots.countP fun k => (s.slot k).isNone),
         BitVec.ofNat 8 s.freeWords] ++
        ([0, 1, 2, 3].map fun i => match s.waitList[i]? with
          | some (p : Master) => BitVec.ofNat 8 p.val
          | none => 0xFF#8) ++
        [BitVec.ofNat 8 s.queue.records.length]⟩)) ∧
    (s.takesFrame .readSettings f →
      exec .readSettings s = .next (s.answered f ⟨.ok,
        wordBytes s.fill ++ [BitVec.ofNat 8 s.time.divider, BitVec.ofNat 8 s.time.masterTimeout,
          BitVec.ofNat 8 s.time.memoryTimeout, BitVec.ofNat 8 s.deferral] ++ halfBytes (s.queue.mask.zeroExtend 16)⟩)) ∧
    (s.takesFrame .readAlerts f →
      exec .readAlerts s = .next (s.answered f ⟨.ok,
        [s.alerts.flags.byte, s.alerts.enables.byte] ++ halfBytes (BitVec.ofNat 16 s.queue.lost)⟩))) ∧
  (∀ (s : State) (b : Byte) (f : List Byte),
    (s.takesFrame (.readMaster b) f →
      (4 ≤ b.toNat → exec (.readMaster b) s = .next (s.answered f ⟨.range, []⟩)) ∧
      ∀ m : Master, b.toNat = m.val →
        exec (.readMaster b) s = .next (s.answered f ⟨.ok,
          [(s.conf m).standing.code] ++ halfBytes (BitVec.ofNat 16 (s.conf m).score) ++ [(s.conf m).recovery.code] ++
          halfBytes (if (s.conf m).recovery = .manual then 0#16 else BitVec.ofNat 16 (s.conf m).count) ++
          [BitVec.ofNat 8 (s.conf m).deferral, boolByte (s.conf m).waitListed, BitVec.ofNat 8 (s.held m)]⟩)) ∧
    (s.takesFrame (.readWindow b) f →
      (16 ≤ b.toNat → exec (.readWindow b) s = .next (s.answered f ⟨.range, []⟩)) ∧
      ∀ i : WindowIx, b.toNat = i.val →
        exec (.readWindow b) s = .next (s.answered f ⟨.ok,
          [boolByte (s.window i).live] ++ addrBytes (s.window i).base ++ addrBytes (s.window i).last ++
          [rightsByte (s.window i).rights]⟩)) ∧
    (s.takesFrame (.readSlot b) f →
      (16 ≤ b.toNat → exec (.readSlot b) s = .next (s.answered f ⟨.range, []⟩)) ∧
      ∀ k : SlotIx, b.toNat = k.val →
        (s.slot k = none →
          exec (.readSlot b) s = .next (s.answered f ⟨.ok, 0x00#8 :: List.replicate 17 0xFF#8⟩)) ∧
        ∀ x, s.slot k = some x →
          exec (.readSlot b) s = .next (s.answered f ⟨.ok,
            [x.phase.code, BitVec.ofNat 8 x.master.val, BitVec.ofNat 8 x.tag.val,
             if x.address.isSome then kindCode x.kind else kindCode x.kind ||| 0x80#8] ++
            addrBytes (x.address.getD 0#24) ++
            [BitVec.ofNat 8 x.beats.val, BitVec.ofNat 8 x.reserved,
             (x.window.map fun w => BitVec.ofNat 8 w.val).getD 0xFF#8, (x.outcome.map Result.code).getD 0xFF#8,
             (x.cause.map ProtocolCause.code).getD 0xFF#8, boolByte x.corrected, boolByte x.orphan, x.admission] ++
            halfBytes (((if x.phase = .issued then s.mem.timer else x.timer).map (BitVec.ofNat 16)).getD 0xFFFF#16) ++
            [BitVec.ofNat 8 x.progress]⟩)))

/-- R160, R161, R165: PEEK FAULT reads the oldest record and POP FAULT removes it; the removal that empties the queue clears QUEUE, and
ALERT follows; on an empty queue both are answered EMPTY and change nothing but the link. -/
def Obligations.PeekAndPopFault : Prop :=
  ∀ (s : State) (f : List Byte),
    (s.takesFrame .peekFault f →
      (s.queue.records = [] → exec .peekFault s = .next (s.answered f ⟨.empty, []⟩)) ∧
      ∀ r rest, s.queue.records = r :: rest → exec .peekFault s = .next (s.answered f ⟨.ok, r.bytes⟩)) ∧
    (s.takesFrame .popFault f →
      (s.queue.records = [] → exec .popFault s = .next (s.answered f ⟨.empty, []⟩)) ∧
      ∀ r rest, s.queue.records = r :: rest →
        (rest ≠ [] →
          exec .popFault s = .next (State.answered { s with queue := { s.queue with records := rest } } f ⟨.ok, r.bytes⟩)) ∧
        (rest = [] →
          exec .popFault s = .next (State.answered
            { s with
              queue := { s.queue with records := [] }
              alerts := { s.alerts with
                flags := { s.alerts.flags with queue := false }
                line := alertLevel { s.alerts.flags with queue := false } s.alerts.enables } } f ⟨.ok, r.bytes⟩)))

/-! ### Setting commands -/

/-- R50, R53, R110, R150, R159: SET FILL, SET DEFERRAL, SET TIMING and SET RECORD MASK write their settings whole and are answered OK, or are
refused with RANGE and write nothing. SET TIMING also sets the divider count to 0; running timers and deferral counts held are not
changed. SET MODE changes the mode and hands over a MODE record where it names the other mode, changes nothing where it names the mode
held, and is refused with RANGE where it names neither. -/
def Obligations.SettingAndModeCommandsAct : Prop :=
  (∀ (s : State) (f : List Byte),
    (∀ w : Word, s.takesFrame (.setFill w) f →
      exec (.setFill w) s = .next (State.answered { s with fill := w } f ⟨.ok, []⟩)) ∧
    (∀ d : Byte, s.takesFrame (.setDeferral d) f →
      (d.toNat ≤ 15 → exec (.setDeferral d) s = .next (State.answered { s with deferral := d.toNat } f ⟨.ok, []⟩)) ∧
      (15 < d.toNat → exec (.setDeferral d) s = .next (s.answered f ⟨.range, []⟩))) ∧
    (∀ k a b : Byte, s.takesFrame (.setTiming k a b) f →
      (k.toNat ≤ 8 → a ≠ 0#8 → b ≠ 0#8 →
        exec (.setTiming k a b) s = .next (State.answered { s with time := ⟨k.toNat, 0, a.toNat, b.toNat⟩ } f ⟨.ok, []⟩)) ∧
      (8 < k.toNat ∨ a = 0#8 ∨ b = 0#8 → exec (.setTiming k a b) s = .next (s.answered f ⟨.range, []⟩))) ∧
    (∀ n : BitVec 16, s.takesFrame (.setRecordMask n) f →
      (n.toNat < 2048 →
        exec (.setRecordMask n) s =
          .next (State.answered { s with queue := { s.queue with mask := BitVec.ofNat 11 n.toNat } } f ⟨.ok, []⟩)) ∧
      (2048 ≤ n.toNat → exec (.setRecordMask n) s = .next (s.answered f ⟨.range, []⟩)))) ∧
  (∀ (s : State) (b : Byte) (m : Mode) (f : List Byte), s.takesFrame (.setMode b) f →
    (b = m.code → s.mode ≠ m →
      exec (.setMode b) s = .next (State.answered (State.hand { s with mode := m } (.mode m)) f ⟨.ok, []⟩)) ∧
    (b = m.code → s.mode = m → exec (.setMode b) s = .next (s.answered f ⟨.ok, []⟩)) ∧
    (b ≠ 0#8 → b ≠ 1#8 → exec (.setMode b) s = .next (s.answered f ⟨.range, []⟩)))

/-- R55, R57: WRITE WINDOW replaces the named entry whole, and the data that READ WINDOW gives of it is then the bytes as written; an
argument out of range is refused with RANGE and leaves the table. No other entry and nothing else changes. -/
def Obligations.WriteWindowReplacesTheEntry : Prop :=
  ∀ (s : State) (index live rights : Byte) (base last : Addr) (f : List Byte),
    s.takesFrame (.writeWindow index live base last rights) f →
      let inRange := index.toNat < 16 ∧ live.toNat ≤ 1 ∧ base.toNat ≤ last.toNat ∧
        ∀ m : Master, (rights.extractLsb' (2 * m.val) 2).toNat ≠ 3
      (inRange →
        ∃ t : State, exec (.writeWindow index live base last rights) s = .next (t.answered f ⟨.ok, []⟩) ∧
          t = { s with windows := t.windows } ∧ (∀ i : WindowIx, i.val ≠ index.toNat → t.window i = s.window i) ∧
          ∀ i : WindowIx, i.val = index.toNat →
            (t.window i).live = decide (live = 1#8) ∧ (t.window i).base = base ∧ (t.window i).last = last ∧
            (∀ m : Master, ((t.window i).rights[m]).code.toNat = (rights.extractLsb' (2 * m.val) 2).toNat) ∧
            (t.window i).data = [live] ++ addrBytes base ++ addrBytes last ++ [rights]) ∧
      (¬inRange → exec (.writeWindow index live base last rights) s = .next (s.answered f ⟨.range, []⟩))

/-- R164 to R167: ALERT is asserted exactly when some flag is set whose enable is on, and a cause that sets a flag leaves the others and
moves ALERT in the same event. CLEAR ALERTS clears the sticky flags it names and never QUEUE; SET ALERT ENABLES takes the enables whole;
ALERT follows in the same event; a byte that names a place of no flag is refused with RANGE. -/
def Obligations.AlertCommandsAct : Prop :=
  (∀ f e : AlertSet, alertLevel f e = true ↔
    (f.queue = true ∧ e.queue = true) ∨ (f.standing = true ∧ e.standing = true) ∨ (f.recovery = true ∧ e.recovery = true) ∨
    (f.memory = true ∧ e.memory = true) ∨ (f.loss = true ∧ e.loss = true) ∨ (f.held = true ∧ e.held = true)) ∧
  (∀ s : State,
    let raised : AlertSet → State := fun f => { s with alerts := { s.alerts with flags := f, line := alertLevel f s.alerts.enables } }
    s.raiseStanding = raised { s.alerts.flags with standing := true } ∧
    s.raiseRecovery = raised { s.alerts.flags with recovery := true } ∧
    s.raiseMemory = raised { s.alerts.flags with memory := true } ∧ s.raiseHeld = raised { s.alerts.flags with held := true }) ∧
  ∀ (s : State) (b : Byte) (f : List Byte),
    (s.takesFrame (.clearAlerts b) f →
      (64 ≤ b.toNat → exec (.clearAlerts b) s = .next (s.answered f ⟨.range, []⟩)) ∧
      (b.toNat < 64 →
        ∃ t : State, exec (.clearAlerts b) s = .next (t.answered f ⟨.ok, []⟩) ∧
          t.alerts.flags = { queue := s.alerts.flags.queue
                             standing := s.alerts.flags.standing && !b.getLsbD 1
                             recovery := s.alerts.flags.recovery && !b.getLsbD 2
                             memory := s.alerts.flags.memory && !b.getLsbD 3
                             loss := s.alerts.flags.loss && !b.getLsbD 4
                             held := s.alerts.flags.held && !b.getLsbD 5 } ∧
          t.alerts.enables = s.alerts.enables ∧ t.alerts.line = alertLevel t.alerts.flags t.alerts.enables ∧
          t = { s with alerts := t.alerts })) ∧
    (s.takesFrame (.setAlertEnables b) f →
      (64 ≤ b.toNat → exec (.setAlertEnables b) s = .next (s.answered f ⟨.range, []⟩)) ∧
      (b.toNat < 64 →
        ∃ t : State, exec (.setAlertEnables b) s = .next (t.answered f ⟨.ok, []⟩) ∧
          t.alerts.enables.byte = b ∧ t.alerts.flags = s.alerts.flags ∧
          t.alerts.line = alertLevel t.alerts.flags t.alerts.enables ∧ t = { s with alerts := t.alerts }))

/-- R75, R93: SET RECOVERY writes the mode and sets the count to 0; CLEAR SCORE sets an ACTIVE master's score to 0, returns a LIMITED one
to ACTIVE with its STANDING record and the RECOVERY flag, and is refused with STATE for an ISOLATED one; a number out of range
is refused with RANGE. -/
def Obligations.RecordCommandsAct : Prop :=
  ∀ (s : State) (b r : Byte) (f : List Byte),
    (s.takesFrame (.setRecovery b r) f →
      (4 ≤ b.toNat ∨ 3 ≤ r.toNat → exec (.setRecovery b r) s = .next (s.answered f ⟨.range, []⟩)) ∧
      ∀ (m : Master) (mode : RecoveryMode), b.toNat = m.val → r = mode.code →
        exec (.setRecovery b r) s =
          .next (State.answered (s.setConf m { s.conf m with recovery := mode, count := 0 }) f ⟨.ok, []⟩)) ∧
    (s.takesFrame (.clearScore b) f →
      (4 ≤ b.toNat → exec (.clearScore b) s = .next (s.answered f ⟨.range, []⟩)) ∧
      ∀ m : Master, b.toNat = m.val →
        ((s.conf m).standing = .active →
          exec (.clearScore b) s = .next (State.answered (s.setConf m { s.conf m with score := 0 }) f ⟨.ok, []⟩)) ∧
        ((s.conf m).standing = .limited →
          exec (.clearScore b) s = .next (State.answered
            (((s.setConf m { s.conf m with score := 0, standing := .active, deferral := 0 }).hand
              (.standing m .limited .active .service 0 none)).raiseRecovery).joinWaiters f ⟨.ok, []⟩)) ∧
        ((s.conf m).standing = .isolated → exec (.clearScore b) s = .next (s.answered f ⟨.state, []⟩)))

/-- R83, R84, R92, R94: ISOLATE isolates a master that is not ISOLATED, and RESTORE recovers one that is, each with cause SERVICE; otherwise
they are refused with STATE, or with RANGE for a number out of range. The recovery event: the master is ACTIVE with score, count and
deferral count 0, its CUT line is released and its port not touched beyond this; one STANDING record without a dropped count is handed
over and the RECOVERY flag is set. No slot and no other port or record changes. -/
def Obligations.IsolateAndRestoreCommandsAct : Prop :=
  (∀ (s : State) (b : Byte) (f : List Byte),
    (s.takesFrame (.isolate b) f →
      (4 ≤ b.toNat → exec (.isolate b) s = .next (s.answered f ⟨.range, []⟩)) ∧
      ∀ m : Master, b.toNat = m.val →
        ((s.conf m).standing ≠ .isolated →
          exec (.isolate b) s = .next (State.answered (s.isolateMaster m .service).joinWaiters f ⟨.ok, []⟩)) ∧
        ((s.conf m).standing = .isolated → exec (.isolate b) s = .next (s.answered f ⟨.state, []⟩))) ∧
    (s.takesFrame (.restore b) f →
      (4 ≤ b.toNat → exec (.restore b) s = .next (s.answered f ⟨.range, []⟩)) ∧
      ∀ m : Master, b.toNat = m.val →
        ((s.conf m).standing = .isolated →
          exec (.restore b) s = .next (State.answered (s.recover m .service).joinWaiters f ⟨.ok, []⟩)) ∧
        ((s.conf m).standing ≠ .isolated → exec (.restore b) s = .next (s.answered f ⟨.state, []⟩)))) ∧
  (∀ (s : State) (m : Master) (cause : StandingCause),
    let t := s.recover m cause
    t.conf m = { s.conf m with score := 0, standing := .active, count := 0, deferral := 0 } ∧ s.sameRecordsBut t m ∧
    t.port m = { s.port m with cut := false } ∧ s.samePortsBut t m ∧
    t = (State.hand { s with masters := t.masters, ports := t.ports }
      (.standing m .isolated .active cause 0 none)).raiseRecovery)

/-- R136, R140, R142, R143: HOLD MEMORY makes an IDLE port HELD with the HELD flag, or sets a hold pending; RELEASE MEMORY ends either; both
are refused with STATE at a FAILED port. RESTORE MEMORY makes the memory SOUND with score 0 and clears a pending hold; a BUSY port goes
on with its transaction, every other port is IDLE with ABORT low and no timer; a MEMORY STANDING record and the MEMORY flag where the
memory was not SOUND. -/
def Obligations.MemoryCommandsAct : Prop :=
  (∀ (s : State) (f : List Byte), s.takesFrame .holdMemory f →
    (s.mem.state = .idle →
      exec .holdMemory s = .next (State.answered (State.raiseHeld { s with mem := { s.mem with state := .held } }) f ⟨.ok, []⟩)) ∧
    (s.mem.state = .busy ∨ s.mem.state = .draining →
      exec .holdMemory s = .next (State.answered { s with mem := { s.mem with holdPending := true } } f ⟨.ok, []⟩)) ∧
    (s.mem.state = .held → exec .holdMemory s = .next (s.answered f ⟨.ok, []⟩)) ∧
    (s.mem.state = .failed → exec .holdMemory s = .next (s.answered f ⟨.state, []⟩))) ∧
  (∀ (s : State) (f : List Byte), s.takesFrame .releaseMemory f →
    (s.mem.state = .idle → exec .releaseMemory s = .next (s.answered f ⟨.ok, []⟩)) ∧
    (s.mem.state = .busy ∨ s.mem.state = .draining →
      exec .releaseMemory s = .next (State.answered { s with mem := { s.mem with holdPending := false } } f ⟨.ok, []⟩)) ∧
    (s.mem.state = .held →
      exec .releaseMemory s = .next (State.answered { s with mem := { s.mem with state := .idle } } f ⟨.ok, []⟩)) ∧
    (s.mem.state = .failed → exec .releaseMemory s = .next (s.answered f ⟨.state, []⟩))) ∧
  (∀ (s : State) (f : List Byte), s.takesFrame .restoreMemory f →
    ∃ u : State, u.health = ⟨0, .sound⟩ ∧ u = { s with health := u.health, mem := u.mem } ∧
      (s.mem.state = .busy → u.mem = { s.mem with holdPending := false }) ∧
      (s.mem.state ≠ .busy →
        u.mem.state = .idle ∧ u.mem.holdPending = false ∧ u.mem.abort = false ∧ u.mem.timer = none) ∧
      exec .restoreMemory s = .next (State.answered
        (if s.health.standing = .sound then u
         else State.raiseMemory (u.hand (.memoryStanding s.health.standing .sound .service 0))) f ⟨.ok, []⟩))

/-- R173: a command frame that is answered with anything but OK changes no state of the unit apart from the link. -/
def Obligations.RefusedCommandsChangeNothing : Prop :=
  ∀ (s t : State) (c : Instr) (f : List Byte) (a : Answer),
    s.takesFrame c f → exec c s = .next t → t.link.retained = some a → a.status ≠ .ok → a.data = [] ∧ t = s.answered f a

/-! ### Shared events: records, isolation, recovery, scores, the wait list -/

/-- R157, R158, R165, R167: a record of a kind the mask excludes leaves everything; another takes the next sequence number, and is
stored at the tail with the pending lost count, setting QUEUE where the queue was empty, or is lost and counted where 32 records
are stored, setting LOSS. ALERT follows. Nothing else changes. -/
def Obligations.RecordsAreHandedOver : Prop :=
  ∀ (s : State) (b : RecordBody),
    (s.queue.mask.getLsbD b.code = false → s.hand b = s) ∧
    (s.queue.mask.getLsbD b.code = true → s.queue.records.length < 32 →
      s.sameButRecords (s.hand b) ∧
      (s.hand b).queue = { records := s.queue.records ++ [⟨s.queue.nextSeq, s.queue.lost, b⟩]
                           nextSeq := s.queue.nextSeq + 1#16, lost := 0, mask := s.queue.mask } ∧
      (s.queue.records ≠ [] → (s.hand b).alerts = s.alerts) ∧
      (s.queue.records = [] →
        (s.hand b).alerts = { flags := { s.alerts.flags with queue := true }, enables := s.alerts.enables
                              line := alertLevel { s.alerts.flags with queue := true } s.alerts.enables })) ∧
    (s.queue.mask.getLsbD b.code = true → 32 ≤ s.queue.records.length →
      s.sameButRecords (s.hand b) ∧
      (s.hand b).queue = { s.queue with nextSeq := s.queue.nextSeq + 1#16, lost := min (s.queue.lost + 1) 65535 } ∧
      (s.hand b).alerts = { flags := { s.alerts.flags with loss := true }, enables := s.alerts.enables
                            line := alertLevel { s.alerts.flags with loss := true } s.alerts.enables })

/-- R10, R11, R39, R79 to R83: the isolation event. The master's live non-orphan slots are freed with their buffer words, but for its
ISSUED slot, which becomes an orphan; its record takes the values of R79; its port leaves the wait list, its fill entries become
discard entries, the item of a response on offer is withdrawn and CUT is asserted; one STANDING record with the dropped count is
handed over and the STANDING flag is set. No other slot, port or record changes. -/
def Obligations.IsolationDropsTheMaster : Prop :=
  ∀ (s : State) (m : Master) (cause : StandingCause),
    let t := s.isolateMaster m cause
    let ends : Slot → Bool := fun x => x.master == m && !x.orphan && x.phase != .issued
    let dropped := allSlots.countP fun k => (s.slot k).any ends
    (∀ k x, s.slot k = some x → ends x = true → t.slot k = none) ∧
    (∀ k x, s.slot k = some x → x.master = m → x.phase = .issued → t.slot k = some { x with orphan := true }) ∧
    (∀ k x, s.slot k = some x → (x.master ≠ m ∨ x.orphan = true) → t.slot k = some x) ∧
    (∀ k, s.slot k = none → t.slot k = none) ∧
    t.freeWords = s.freeWords + (allSlots.map fun k => if (s.slot k).any ends then s.reservedAt k else 0).sum ∧
    t.conf m = { s.conf m with score := 256, standing := .isolated, count := 0, deferral := 0, waitListed := false } ∧
    s.sameRecordsBut t m ∧
    t.port m = { s.port m with
      writeList := (s.port m).writeList.map fun _ => .discard
      offer := (s.port m).offer.map fun i =>
        if i.withdrawn = false ∧ i.status ≠ .cutoff then { i with withdrawn := true, last := true } else i
      cut := true } ∧
    s.samePortsBut t m ∧
    t.waitList = s.waitList.filter (· ≠ m) ∧
    t = (State.hand { s with slots := t.slots, freeWords := t.freeWords, masters := t.masters, ports := t.ports,
                             waitList := t.waitList }
      (.standing m (s.conf m).standing .isolated cause 256 (some dropped))).raiseStanding

/-- R52, R62 to R70: a fault of weight `w`. In PASS mode its record is handed over with the score as it stands and nothing else; in GUARD
mode the score rises by the weight, held at 256, the record carries the new score, and a change of standing follows: ACTIVE to
LIMITED with its record and flag, or the isolation event. A clean completion lowers the score by 1, not below 0, and takes a
LIMITED master at 128 to ACTIVE with its record and flag; in PASS mode it changes nothing. -/
def Obligations.ScoreChangesAreApplied : Prop :=
  ∀ (s : State) (m : Master) (w : Nat) (record : Nat → RecordBody),
    let c := s.conf m
    (s.mode = .pass → s.fault m w record = s.hand (record c.score) ∧ s.cleanCompletion m = s) ∧
    (s.mode = .guarded → c.standing = .active → c.score < 128 →
      (c.score + w < 128 → s.fault m w record = (s.hand (record (c.score + w))).setConf m { c with score := c.score + w }) ∧
      (128 ≤ c.score + w → c.score + w < 256 →
        s.fault m w record =
          (((s.hand (record (c.score + w))).setConf m { c with score := c.score + w, standing := .limited }).hand
            (.standing m .active .limited .score (c.score + w) none)).raiseStanding) ∧
      s.cleanCompletion m = s.setConf m { c with score := c.score - 1 }) ∧
    (s.mode = .guarded → c.standing = .limited → 128 ≤ c.score → c.score < 256 →
      (c.score + w < 256 → s.fault m w record = (s.hand (record (c.score + w))).setConf m { c with score := c.score + w }) ∧
      (256 ≤ c.score + w → s.fault m w record = (s.hand (record 256)).isolateMaster m .score) ∧
      (129 ≤ c.score → s.cleanCompletion m = s.setConf m { c with score := c.score - 1 }) ∧
      (c.score = 128 →
        s.cleanCompletion m =
          ((s.setConf m { c with score := 127, standing := .active, deferral := 0 }).hand
            (.standing m .limited .active .score 127 none)).raiseRecovery))

/-- R26, R30, R31, R60: the joining of the wait list at the end of an event. Ports that meet conditions 1 to 7 of R23 and were not on the
list (spelled out, with the failing of 8 or 9) join its tail, each once, with the wait-listed field of its master, until no port is left
that is to join; the ports on the list keep their places; nothing else changes. The first to join is one that fails condition 8 or 9; a
port whose request would fit joins behind it, since its joining shuts that port out (R31), so no port that meets 1 to 7 is then left off
the list. That ports join at the end of the event, looked at again until none is left, is the model's (notes/assumptions/12.md). Where
several are due the order is free (notes/assumptions/4.md). That the slot limit holds for a LIMITED master also in the case of the first
line of R74's table is the model's (notes/assumptions/17.md). -/
def Obligations.WaitersJoinTheList : Prop :=
  (∀ (s : State) (p : Master),
    (∀ r : Request, s.ready17 p = some r ↔
      (s.port p).head = some r ∧ s.resetPin = false ∧ (s.port p).pclr = false ∧ (s.conf p).standing ≠ .isolated ∧
      (∃ k, s.slot k = none) ∧
      (allSlots.countP fun k => (s.slot k).any fun x => x.master == p && !x.orphan) <
        (if (s.conf p).standing = .active then 4 else 1) ∧
      (∀ k x, s.slot k = some x → x.master = p → x.orphan = false → s.counter p + 1#8 ≠ x.admission) ∧
      (r.kind = .write → (s.port p).writeList.length < 4)) ∧
    (s.mustJoin p = true ↔
      p ∉ s.waitList ∧ ∃ r, s.ready17 p = some r ∧
        (s.freeWords < s.need p r ∨ (s.waitList ≠ [] ∧ s.waitList.head? ≠ some p)))) ∧
  ∀ s : State,
    let t := s.joinWaiters
    s.sameButWaiting t ∧ (∀ p : Master, t.mustJoin p = false) ∧
    ∃ joined : List Master, t.waitList = s.waitList ++ joined ∧ joined.Nodup ∧
      (∀ p ∈ joined, p ∉ s.waitList ∧ (s.ready17 p).isSome = true ∧ (t.conf p).waitListed = true) ∧
      (∀ p, p ∉ joined → t.conf p = s.conf p) ∧ (∀ q ∈ joined.head?, s.mustJoin q = true) ∧
      (joined ≠ [] → ∀ p, (s.ready17 p).isSome = true → p ∉ s.waitList → p ∈ joined) ∧
      ((∀ p : Master, s.mustJoin p = false) → t = s)

/-! ### Admission -/

/-- R21, R30, R41: a request presented at a port without one becomes its head request, and the ports that are then to join the wait list
join it; while PCLR is asserted it waits on the channel instead. -/
def Obligations.RequestsArePresented : Prop :=
  ∀ (s : State) (p : Master) (r : Request), (s.port p).head = none → (s.port p).waiting = none →
    ((s.port p).pclr = false →
      ∃ u : State, exec (.requestPresentation p r) s = .next u.joinWaiters ∧
        u.port p = { s.port p with head := some r } ∧ s.samePortsBut u p ∧ u = { s with ports := u.ports }) ∧
    ((s.port p).pclr = true →
      ∃ u : State, exec (.requestPresentation p r) s = .next u ∧
        u.port p = { s.port p with waiting := some r } ∧ s.samePortsBut u p ∧ u = { s with ports := u.ports })

/-- R24, R25, R46, R51: the check of form gives the first of BEATS, RANGE and TAG that applies, and the need of a request is 0 where it is
malformed and its beats otherwise. A malformed request is decided PROTOCOL with its cause; a well-formed one is decided by the window
table in GUARD mode and allowed without a window in PASS mode. -/
def Obligations.FormIsCheckedAndDecided : Prop :=
  (∀ (s : State) (p : Master) (r : Request),
    let lawful := 1 ≤ r.beats.val ∧ r.beats.val ≤ 16
    let fits := r.address.toNat + r.beats.val - 1 ≤ 16777215
    let inUse := ∃ k x, s.slot k = some x ∧ x.master = p ∧ x.orphan = false ∧ x.tag = r.tag
    (s.formCause p r = some .beats ↔ ¬lawful) ∧ (s.formCause p r = some .range ↔ lawful ∧ ¬fits) ∧
    (s.formCause p r = some .tag ↔ lawful ∧ fits ∧ inUse) ∧ (s.formCause p r = none ↔ lawful ∧ fits ∧ ¬inUse) ∧
    (s.formCause p r = none → s.need p r = r.beats.val) ∧ (s.formCause p r ≠ none → s.need p r = 0)) ∧
  (∀ (s : State) (p : Master) (r : Request),
    (∀ c, s.formCause p r = some c → s.decideRequest p r = .protocol c) ∧
    (s.formCause p r = none → s.mode = .guarded → s.decideRequest p r = s.access p r) ∧
    (s.formCause p r = none → s.mode = .pass → s.decideRequest p r = .allowed none))

/-- R44, R45: the window matched by a request is the lowest-numbered live entry that contains its start address, and the access decision
is the first line of R45 that applies. -/
def Obligations.AccessIsDecided : Prop :=
  ∀ (s : State) (p : Master) (r : Request),
    let contains : WindowIx → Prop := fun i =>
      (s.window i).live = true ∧ (s.window i).base.toNat ≤ r.address.toNat ∧ r.address.toNat ≤ (s.window i).last.toNat
    let overruns : WindowIx → Prop := fun i => (s.window i).last.toNat < r.address.toNat + r.beats.val - 1
    (∀ i, s.matchWindow r.address = some i ↔ contains i ∧ ∀ j, j < i → ¬contains j) ∧
    (s.matchWindow r.address = none ↔ ∀ i, ¬contains i) ∧
    (s.matchWindow r.address = none → s.access p r = .unmapped) ∧
    ∀ i, s.matchWindow r.address = some i →
      (overruns i → s.access p r = .denied i) ∧
      (¬overruns i → (s.window i).rights[p] = .none → s.access p r = .denied i) ∧
      (¬overruns i → (s.window i).rights[p] = .read → r.kind = .write → s.access p r = .denied i) ∧
      (¬overruns i → (s.window i).rights[p] = .read → r.kind = .read → s.access p r = .allowed (some i)) ∧
      (¬overruns i → (s.window i).rights[p] = .readWrite → s.access p r = .allowed (some i))

/-- R2, R4, R7, R22 to R24, R27, R28, R32, R63: where the nine conditions of R23 hold, the head request is taken: the lowest-numbered FREE
slot takes the record that the decision gives, with the next admission number; the data buffer reserves the need; the write-data
list gains its entry; the port leaves the wait list; then the fault of the decision is handed over, and ports join the wait list.
No other slot or port changes before the hand-over. -/
def Obligations.AdmissionAllocatesASlot : Prop :=
  ∀ (s : State) (p : Master) (r : Request) (k : SlotIx) (d : Decision),
    (s.port p).head = some r → s.resetPin = false → (s.port p).pclr = false → (s.conf p).standing ≠ .isolated →
    s.slot k = none → (∀ j, j < k → s.slot j ≠ none) →
    s.held p < (if (s.conf p).standing = .active then 4 else 1) →
    (∀ j y, s.slot j = some y → y.master = p → y.orphan = false → s.counter p + 1#8 ≠ y.admission) →
    (r.kind = .write → (s.port p).writeList.length < 4) → s.need p r ≤ s.freeWords →
    (s.waitList = [] ∨ s.waitList.head? = some p) → d = s.decideRequest p r →
      ∃ u v : State, ∃ x : Slot,
        exec (.admissionEvent p) s = .next v.joinWaiters ∧ u.slot k = some x ∧ s.sameSlotsBut u k ∧
        x.master = p ∧ x.tag = r.tag ∧ x.kind = r.kind ∧ x.beats = r.beats ∧ x.reserved = s.need p r ∧
        x.admission = s.counter p ∧ x.corrected = false ∧ x.orphan = false ∧ x.progress = 0 ∧ x.enables = [] ∧
        x.timer = (if x.phase = .filling then some s.time.masterTimeout else none) ∧
        (match d with
          | .protocol c =>
            x.outcome = some .protocol ∧ x.cause = some c ∧ x.window = none ∧ x.words = [] ∧
            x.address = (if c = .tag then some r.address else none) ∧
            x.phase = (if r.kind = .write ∧ c = .tag then .filling else .ready) ∧
            v = u.fault p 8 (.protocol p r.tag r.kind c x.address)
          | .denied i =>
            x.outcome = some .denied ∧ x.cause = none ∧ x.window = some i ∧ x.address = some r.address ∧
            x.phase = (if r.kind = .read then .ready else .filling) ∧
            x.words = (if r.kind = .read then List.replicate r.beats.val s.fill else []) ∧
            v = u.fault p (if r.kind = .read then 4 else 8) (.denied p r.tag r.kind r.address i)
          | .unmapped =>
            x.outcome = some .unmapped ∧ x.cause = none ∧ x.window = none ∧ x.address = some r.address ∧
            x.phase = (if r.kind = .read then .ready else .filling) ∧
            x.words = (if r.kind = .read then List.replicate r.beats.val s.fill else []) ∧
            v = u.fault p (if r.kind = .read then 4 else 8) (.unmapped p r.tag r.kind r.address)
          | .allowed w =>
            x.cause = none ∧ x.window = w ∧ x.address = some r.address ∧ v = u ∧
            (r.kind = .write → x.outcome = none ∧ x.phase = .filling ∧ x.words = []) ∧
            (r.kind = .read → s.health.standing = .failed →
              x.outcome = some .memfault ∧ x.phase = .ready ∧ x.words = List.replicate r.beats.val s.fill) ∧
            (r.kind = .read → s.health.standing ≠ .failed → x.outcome = none ∧ x.phase = .queued ∧ x.words = [])) ∧
        u.freeWords = s.freeWords - s.need p r ∧ u.counter p = s.counter p + 1#8 ∧
        (∀ q, q ≠ p → u.counter q = s.counter q) ∧
        u.port p = { s.port p with
          head := none
          writeList := (s.port p).writeList ++
            (if r.kind = .read then [] else if x.phase = .filling then [ListEntry.fill k] else [ListEntry.discard]) } ∧
        s.samePortsBut u p ∧ u.waitList = s.waitList.filter (· ≠ p) ∧
        u.conf p = { s.conf p with waitListed := false } ∧ s.sameRecordsBut u p ∧
        u = { s with slots := u.slots, freeWords := u.freeWords, counters := u.counters, ports := u.ports,
                     waitList := u.waitList, masters := u.masters }

/-- R38, R88: the CUTOFF event. The head request of an ISOLATED master is taken without a slot, words or number and answered with one
item; a write gains a discard entry; the count of a master in QUIET becomes 0. Nothing else changes. -/
def Obligations.CutoffAnswersWithoutASlot : Prop :=
  ∀ (s : State) (p : Master) (r : Request),
    (s.port p).head = some r → (s.conf p).standing = .isolated → s.resetPin = false → (s.port p).pclr = false →
    (s.port p).offer = none → (r.kind = .write → (s.port p).writeList.length < 4) →
      ∃ t : State, exec (.cutoffEvent p) s = .next t ∧
        t.port p = { s.port p with
          head := none
          offer := some { tag := r.tag, status := .cutoff, word := none, last := true, withdrawn := false, corrected := false }
          writeList := (s.port p).writeList ++ (if r.kind = .write then [ListEntry.discard] else []) } ∧
        s.samePortsBut t p ∧
        t.conf p = { s.conf p with count := if (s.conf p).recovery = .quiet then 0 else (s.conf p).count } ∧
        s.sameRecordsBut t p ∧ t = { s with ports := t.ports, masters := t.masters }

/-! ### Write data -/

/-- R29, R33: a beat at a fill entry is counted into its slot, and its word and enables are kept where the write is allowed; the last
beat in the declared count takes the slot to QUEUED, or to READY with its outcome or with MEMFAULT, and the entry leaves the
list. -/
def Obligations.BeatsFillTheirSlot : Prop :=
  ∀ (s : State) (p : Master) (k : SlotIx) (x : Slot) (rest : List ListEntry) (w : Word) (e : Enables),
    s.resetPin = false → (s.port p).pclr = false → (s.port p).writeList = .fill k :: rest → s.slot k = some x →
    let taken : Slot :=
      { x with
        progress := x.progress + 1
        words := if x.outcome = none then x.words ++ [w] else x.words
        enables := if x.outcome = none then x.enables ++ [e] else x.enables }
    (x.progress + 1 < x.beats.val →
      ∃ u : State, exec (.writeDataBeat p ⟨w, e, false⟩) s = .next u.joinWaiters ∧
        u.slot k = some taken ∧ s.sameSlotsBut u k ∧ u = { s with slots := u.slots }) ∧
    (x.progress + 1 = x.beats.val →
      ∃ u : State, exec (.writeDataBeat p ⟨w, e, true⟩) s = .next u.joinWaiters ∧
        (x.outcome ≠ none → u.slot k = some { taken with phase := .ready, timer := none }) ∧
        (x.outcome = none → s.health.standing ≠ .failed → u.slot k = some { taken with phase := .queued, timer := none }) ∧
        (x.outcome = none → s.health.standing = .failed →
          u.slot k = some { taken with phase := .ready, timer := none, outcome := some .memfault }) ∧
        s.sameSlotsBut u k ∧ u.port p = { s.port p with writeList := rest } ∧ s.samePortsBut u p ∧
        u = { s with slots := u.slots, ports := u.ports })

/-- R34 to R36: a last marker below the declared count ends the burst SHORT, and a beat that reaches the count without one makes it LONG
and leaves a discard entry: the slot is READY with outcome PROTOCOL, and the fault of weight 8 is handed over. A beat at a discard
entry is thrown away, and its last marker removes the entry. -/
def Obligations.WrongBurstsArePROTOCOL : Prop :=
  ∀ (s : State) (p : Master) (rest : List ListEntry) (w : Word) (e : Enables),
    s.resetPin = false → (s.port p).pclr = false →
    (∀ (k : SlotIx) (x : Slot) (c : ProtocolCause) (last : Bool),
      (s.port p).writeList = .fill k :: rest → s.slot k = some x →
      (c = .short ∧ last = true ∧ x.progress + 1 < x.beats.val ∨ c = .long ∧ last = false ∧ x.progress + 1 = x.beats.val) →
        ∃ (u : State) (y : Slot),
          exec (.writeDataBeat p ⟨w, e, last⟩) s =
            .next (u.fault x.master 8 (.protocol x.master x.tag x.kind c x.address)).joinWaiters ∧
          u.slot k = some y ∧ s.sameSlotsBut u k ∧
          y = { x with phase := .ready, timer := none, outcome := some .protocol, cause := some c
                       progress := x.progress + 1, words := y.words, enables := y.enables } ∧
          u.port p = { s.port p with writeList := if c = .short then rest else .discard :: rest } ∧ s.samePortsBut u p ∧
          u = { s with slots := u.slots, ports := u.ports }) ∧
    ((s.port p).writeList = .discard :: rest →
      exec (.writeDataBeat p ⟨w, e, false⟩) s = .next s.joinWaiters ∧
      ∃ u : State, exec (.writeDataBeat p ⟨w, e, true⟩) s = .next u.joinWaiters ∧
        u.port p = { s.port p with writeList := rest } ∧ s.samePortsBut u p ∧ u = { s with ports := u.ports })

/-- R6, R17, R18, R37: the expiry of the timer of a FILLING or DELIVERING slot frees it with its words; a FILLING slot's fill entry becomes
a discard entry in its place; the item of a DELIVERING slot's response on offer is withdrawn; a STALL of weight 8 is handed over. -/
def Obligations.StallsFreeTheSlot : Prop :=
  ∀ (s : State) (k : SlotIx) (x : Slot), s.slot k = some x → x.timer = some 0 →
    (x.phase = .filling →
      ∃ u : State,
        exec (.fillingStall k) s = .next (u.fault x.master 8 (.stall x.master x.tag x.kind .filling)).joinWaiters ∧
        u.slot k = none ∧ s.sameSlotsBut u k ∧ u.freeWords = s.freeWords + x.reserved ∧
        u.port x.master = { s.port x.master with
          writeList := (s.port x.master).writeList.map fun e => if e = .fill k then .discard else e } ∧
        s.samePortsBut u x.master ∧ u = { s with slots := u.slots, freeWords := u.freeWords, ports := u.ports }) ∧
    (x.phase = .delivering →
      ∃ u : State,
        exec (.deliveringStall k) s = .next (u.fault x.master 8 (.stall x.master x.tag x.kind .delivering)).joinWaiters ∧
        u.slot k = none ∧ s.sameSlotsBut u k ∧ u.freeWords = s.freeWords + x.reserved ∧
        u.port x.master = { s.port x.master with
          offer := (s.port x.master).offer.map fun i =>
            if i.withdrawn = false ∧ i.status ≠ .cutoff then { i with withdrawn := true, last := true } else i } ∧
        s.samePortsBut u x.master ∧ u = { s with slots := u.slots, freeWords := u.freeWords, ports := u.ports })

/-! ### Response delivery -/

/-- R8, R14, R15: a READY slot that is its master's oldest enters DELIVERING where none of the master's slots is in it: its progress is 0,
its timer the master timeout, and its first item is offered, or waits where an item is still on offer. Every item carries tag and status;
the items of a read that is not PROTOCOL carry its words in order, a word each where the reservation holds one for every beat, the
corrected indication where DONE, and the last marker on the final one; every other response is one item. The status of a response is the
one named as its outcome is (Table 13-6). -/
def Obligations.OldestReadySlotDelivers : Prop :=
  (∀ (s : State) (p : Master) (k : SlotIx) (x : Slot) (r : Result),
    s.slot k = some x → x.master = p → x.orphan = false → x.phase = .ready → x.outcome = some r →
    (∀ j y, s.slot j = some y → y.master = p → y.orphan = false → y.phase ≠ .delivering) →
    (∀ j y, j ≠ k → s.slot j = some y → y.master = p → y.orphan = false →
      (s.counter p - y.admission).toNat < (s.counter p - x.admission).toNat) →
      ∃ t : State, exec (.enterDelivering p) s = .next t ∧
        t.slot k = some { x with phase := .delivering, progress := 0, timer := some s.time.masterTimeout } ∧
        s.sameSlotsBut t k ∧
        ((s.port p).offer = none → t.port p = { s.port p with offer := some (x.item r 0) }) ∧
        ((s.port p).offer ≠ none → t.port p = s.port p) ∧ s.samePortsBut t p ∧
        t = { s with slots := t.slots, ports := t.ports }) ∧
  [Result.done, .denied, .unmapped, .protocol, .memfault, .timeout].map (·.status) =
    [Status.done, .denied, .unmapped, .protocol, .memfault, .timeout] ∧
  ∀ (x : Slot) (r : Result) (i : Nat),
    (x.item r i).tag = x.tag ∧ (x.item r i).status = r.status ∧ (x.item r i).withdrawn = false ∧
    (x.kind = .read → r ≠ .protocol →
      (x.item r i).word = x.words[i]? ∧
      (x.words.length = x.beats.val → ∀ h : i < x.words.length, (x.item r i).word = some x.words[i]) ∧
      (x.item r i).last = decide (x.beats.val ≤ i + 1) ∧
      (x.item r i).corrected = (decide (r = .done) && x.corrected)) ∧
    (x.kind = .write ∨ r = .protocol →
      (x.item r i).word = none ∧ (x.item r i).last = true ∧ (x.item r i).corrected = false)

/-- R14, R16, R18: the take of an item. An item of a response that is not its last brings the next on offer; the last frees the slot with
its words; a withdrawn item or a CUTOFF answer leaves the channel to the slot in DELIVERING, where there is one. -/
def Obligations.TakesMoveTheResponse : Prop :=
  ∀ (s : State) (p : Master) (i : Item), (s.port p).offer = some i →
    (∀ (k : SlotIx) (x : Slot) (r : Result),
      s.slot k = some x → x.master = p → x.orphan = false → x.phase = .delivering → x.outcome = some r →
      (∀ j y, s.slot j = some y → y.master = p → y.orphan = false → y.phase = .delivering → j = k) →
        (i.withdrawn = false → i.status ≠ .cutoff → i.last = false →
          ∃ t : State, exec (.responseItemTake p) s = .next t ∧
            t.slot k = some { x with progress := x.progress + 1 } ∧ s.sameSlotsBut t k ∧
            t.port p = { s.port p with offer := some (x.item r (x.progress + 1)) } ∧ s.samePortsBut t p ∧
            t = { s with slots := t.slots, ports := t.ports }) ∧
        (i.withdrawn = false → i.status ≠ .cutoff → i.last = true →
          ∃ u : State, exec (.responseItemTake p) s = .next u.joinWaiters ∧
            u.slot k = none ∧ s.sameSlotsBut u k ∧ u.freeWords = s.freeWords + x.reserved ∧
            u.port p = { s.port p with offer := none } ∧ s.samePortsBut u p ∧
            u = { s with slots := u.slots, freeWords := u.freeWords, ports := u.ports }) ∧
        (i.withdrawn = true ∨ i.status = .cutoff →
          ∃ t : State, exec (.responseItemTake p) s = .next t ∧
            t.port p = { s.port p with offer := some (x.item r x.progress) } ∧ s.samePortsBut t p ∧
            t = { s with ports := t.ports })) ∧
    ((∀ j y, s.slot j = some y → y.master = p → y.orphan = false → y.phase ≠ .delivering) →
      (i.withdrawn = true ∨ i.status = .cutoff) →
        ∃ t : State, exec (.responseItemTake p) s = .next t ∧
          t.port p = { s.port p with offer := none } ∧ s.samePortsBut t p ∧ t = { s with ports := t.ports })

/-! ### Port clear -/

/-- R10, R19, R40, R41, R182: the port clear. The master's live non-orphan slots are freed with their words, but for its ISSUED slot, which
becomes an orphan; the head request, the write-data list and the response channel are emptied; the port leaves the wait list; one PORT
CLEARED record with the number freed is handed over. Score, standing, recovery and deferral, the admission counter and CUT stay. The
assertion of PCLR carries it out, and the release makes a request presented meanwhile the head request; while RESET is asserted an
edge changes the line's level alone. That it does so with a request waiting too, which then stays on the channel, is the model's reading of
R182 (notes/assumptions/13.md). -/
def Obligations.PortClearDropsThePortsWork : Prop :=
  (∀ (s : State) (p : Master),
    let t := s.portClear p
    let ends : Slot → Bool := fun x => x.master == p && !x.orphan && x.phase != .issued
    let dropped := allSlots.countP fun k => (s.slot k).any ends
    (∀ k x, s.slot k = some x → ends x = true → t.slot k = none) ∧
    (∀ k x, s.slot k = some x → x.master = p → x.phase = .issued → t.slot k = some { x with orphan := true }) ∧
    (∀ k x, s.slot k = some x → (x.master ≠ p ∨ x.orphan = true) → t.slot k = some x) ∧
    (∀ k, s.slot k = none → t.slot k = none) ∧
    t.freeWords = s.freeWords + (allSlots.map fun k => if (s.slot k).any ends then s.reservedAt k else 0).sum ∧
    t.port p = { s.port p with head := none, writeList := [], offer := none } ∧ s.samePortsBut t p ∧
    t.waitList = s.waitList.filter (· ≠ p) ∧ t.conf p = { s.conf p with waitListed := false } ∧ s.sameRecordsBut t p ∧
    t = State.hand { s with slots := t.slots, freeWords := t.freeWords, masters := t.masters, ports := t.ports,
                            waitList := t.waitList } (.portCleared p dropped)) ∧
  (∀ (s : State) (p : Master),
    ((s.port p).pclr = false → s.resetPin = false →
      exec (.pclrAssertion p) s = .next ((s.setPort p { s.port p with pclr := true }).portClear p).joinWaiters) ∧
    ((s.port p).pclr = false → s.resetPin = true →
      exec (.pclrAssertion p) s = .next (s.setPort p { s.port p with pclr := true })) ∧
    ((s.port p).pclr = true → s.resetPin = false → (s.port p).head = none →
      ∃ u : State, exec (.pclrRelease p) s = .next u.joinWaiters ∧
        u.port p = { s.port p with pclr := false, head := (s.port p).waiting, waiting := none } ∧ s.samePortsBut u p ∧
        u = { s with ports := u.ports }) ∧
    ((s.port p).pclr = true → s.resetPin = true →
      exec (.pclrRelease p) s = .next (s.setPort p { s.port p with pclr := false })))

/-! ### Arbitration -/

/-- R99, R102, R103: a master's candidate is its oldest QUEUED slot; of the masters with a candidate those with deferral count 0 are
eligible, and all of them where none has count 0; the winner is the first eligible in the order that starts after the pointer, and
there is one whenever some master has a candidate. -/
def Obligations.ArbiterChoosesTheWinner : Prop :=
  ∀ s : State,
    let queued : Master → SlotIx → Slot → Prop := fun m k x =>
      s.slot k = some x ∧ x.master = m ∧ x.orphan = false ∧ x.phase = .queued
    (∀ (m : Master) (k : SlotIx), s.candidate m = some k →
      ∃ x, queued m k x ∧
        ∀ j y, queued m j y → (s.counter m - y.admission).toNat ≤ (s.counter m - x.admission).toNat) ∧
    (∀ m : Master, s.candidate m = none ↔ ∀ k x, ¬queued m k x) ∧
    (∀ m : Master, s.eligible m = true ↔
      s.candidate m ≠ none ∧
        ((s.conf m).deferral = 0 ∨ ∀ n : Master, s.candidate n ≠ none → (s.conf n).deferral ≠ 0)) ∧
    (∀ w : Master, s.winner = some w →
      s.eligible w = true ∧ ∀ v : Master, s.eligible v = true → (w - (s.pointer + 1)).val ≤ (v - (s.pointer + 1)).val) ∧
    (s.winner = none ↔ ∀ m : Master, s.candidate m = none)

/-- R72, R104, R114, R149: the grant. With the port IDLE and a candidate waiting, the winner's candidate is ISSUED, the port is BUSY with
its beat account cleared and its timer set, and offers kind, address and beats; a LIMITED winner's deferral count is set to D, every
other master's falls by 1 above 0; the pointer is the winner. No record, no flag, no port changes. -/
def Obligations.GrantIssuesTheWinner : Prop :=
  ∀ (s : State) (w : Master) (k : SlotIx) (x : Slot),
    s.mem.state = .idle → s.countPhase .issued = 0 → s.winner = some w → s.candidate w = some k → s.slot k = some x →
      ∃ t : State, exec .grant s = .next t ∧
        t.slot k = some { x with phase := .issued } ∧ s.sameSlotsBut t k ∧
        t.mem = { state := .busy, holdPending := false, abort := false, timer := some s.time.memoryTimeout, received := 0
                  sawBad := false, sawCorrected := false, taken := 0, issueOffered := true } ∧
        t.issueLines = some (x.kind, x.address, x.beats) ∧ t.pointer = w ∧
        t.conf w = { s.conf w with
          deferral := if (s.conf w).standing = .limited then s.deferral else (s.conf w).deferral } ∧
        (∀ m, m ≠ w → t.conf m = { s.conf m with deferral := (s.conf m).deferral - 1 }) ∧
        t = { s with slots := t.slots, mem := t.mem, masters := t.masters, pointer := t.pointer }

/-! ### The memory port -/

/-- R114, R115: the memory takes the issue, and the data beats of a write one by one; the port counts each and offers the next with its
last marker on the final one. No take restarts the memory timer, and nothing else changes. The transaction at the memory is that of the
ISSUED slot. -/
def Obligations.MemoryTakesIssueAndData : Prop :=
  ∀ s : State,
    (∀ (k : SlotIx) (x : Slot), s.issued = some (k, x) → s.slot k = some x ∧ x.phase = .issued) ∧
    (s.issued = none ↔ ∀ k x, s.slot k = some x → x.phase ≠ .issued) ∧
    (s.mem.issueOffered = false → s.issueLines = none) ∧
    (s.mem.issueOffered = true →
      exec .issueTake s = .next { s with mem := { s.mem with issueOffered := false } }) ∧
    ∀ (k : SlotIx) (x : Slot), s.mem.state = .busy → s.issued = some (k, x) → x.kind = .write → s.mem.taken < x.beats.val →
      s.writeDataLines =
        some (x.words[s.mem.taken]?, x.enables[s.mem.taken]?, decide (s.mem.taken + 1 = x.beats.val)) ∧
      ∃ t : State, exec .writeDataTake s = .next t ∧ t = { s with mem := { s.mem with taken := s.mem.taken + 1 } } ∧
        (s.mem.taken + 1 < x.beats.val →
          t.writeDataLines =
            some (x.words[s.mem.taken + 1]?, x.enables[s.mem.taken + 1]?, decide (s.mem.taken + 2 = x.beats.val))) ∧
        (s.mem.taken + 1 = x.beats.val → t.writeDataLines = none)

/-- R116, R117, R119, R191: a read beat within the declared count is written into the reservation and noted, status 3 as BAD; a later one
is discarded; the last marker completes the read, missing beats counting as BAD and taking the fill word, with the outcome, class and
record of R119. Where the words kept number the beats received, they do so after, and those of a completed read number its beats. -/
def Obligations.ReadBeatsFillAndComplete : Prop :=
  ∀ (s : State) (k : SlotIx) (x : Slot) (w : Word) (status : BitVec 2),
    s.mem.state = .busy → s.issued = some (k, x) → x.kind = .read →
      ∃ (u : State) (y : Slot),
        exec (.readBeat w status false) s = .next u ∧ u.slot k = some y ∧
        (s.mem.received < x.beats.val →
          y = { x with words := x.words ++ [w], progress := s.mem.received + 1 } ∧ s.sameSlotsBut u k ∧
          u.mem = { s.mem with
            received := s.mem.received + 1
            sawBad := s.mem.sawBad || decide (2 ≤ status.toNat)
            sawCorrected := s.mem.sawCorrected || decide (status = 1#2) } ∧
          u = { s with slots := u.slots, mem := u.mem }) ∧
        (x.beats.val ≤ s.mem.received → u = s) ∧
        let missing := x.beats.val - u.mem.received
        let ended : Slot := { y with words := y.words ++ List.replicate missing s.fill }
        (x.words.length = s.mem.received → s.mem.received ≤ x.beats.val →
          y.words.length = u.mem.received ∧ u.mem.received ≤ x.beats.val ∧ ended.words.length = x.beats.val) ∧
        (u.mem.sawBad = true ∨ 0 < missing →
          exec (.readBeat w status true) s = .next (u.completion k ended .memfault u.mem.sawCorrected .faulted
            fun n => some (.memoryFault x.master x.tag .read x.address x.orphan .bad n))) ∧
        (u.mem.sawBad = false → missing = 0 → u.mem.sawCorrected = true →
          exec (.readBeat w status true) s = .next (u.completion k ended .done true .corrected
            fun n => some (.memoryCorrected x.master x.tag x.address x.orphan n))) ∧
        (u.mem.sawBad = false → missing = 0 → u.mem.sawCorrected = false →
          exec (.readBeat w status true) s = .next (u.completion k ended .done false .clean fun _ => none))

/-- R118, R119: a write acknowledge completes the write: DONE where it carries OK after every data beat has been taken, and MEMFAULT with
cause WRITE FAIL otherwise. -/
def Obligations.AcknowledgeCompletesTheWrite : Prop :=
  ∀ (s : State) (k : SlotIx) (x : Slot), s.mem.state = .busy → s.issued = some (k, x) → x.kind = .write →
    (x.beats.val ≤ s.mem.taken →
      exec (.writeAcknowledge true) s = .next (s.completion k x .done false .clean fun _ => none)) ∧
    ∀ ok : Bool, (ok = false ∨ s.mem.taken < x.beats.val) →
      exec (.writeAcknowledge ok) s = .next (s.completion k x .memfault false .faulted
        fun n => some (.memoryFault x.master x.tag .write x.address x.orphan .writeFail n))

/-- R86, R121, R122, R142: the completion event in its four steps: the slot, which is READY with its outcome, or freed where it is an
orphan; the memory health block; for outcome DONE of a slot that is no orphan the clean completion and the witness counts; the port,
which is FAILED, HELD with the HELD flag, or IDLE. Ports then join the wait list. That an issue which the memory has not taken is
withdrawn as BUSY ends is the model's (MemPort.fresh, notes/assumptions/11.md). -/
def Obligations.CompletionTakesItsSteps : Prop :=
  ∀ (s : State) (k : SlotIx) (x y : Slot) (r : Result) (corrected : Bool) (c : HealthClass)
    (record : Nat → Option RecordBody), s.slot k = some y → y.reserved = x.reserved →
      ∃ u v w : State,
        (x.orphan = true → u.slot k = none ∧ u.freeWords = s.freeWords + x.reserved) ∧
        (x.orphan = false →
          u.slot k = some { x with phase := .ready, outcome := some r, corrected := corrected, timer := none } ∧
          u.freeWords = s.freeWords) ∧
        s.sameSlotsBut u k ∧ u = { s with slots := u.slots, freeWords := u.freeWords } ∧
        v = u.scoreMemory c record ∧
        (r = .done → x.orphan = false → w = (v.cleanCompletion x.master).witness) ∧
        (r ≠ .done ∨ x.orphan = true → w = v) ∧
        (w.health.standing = .failed →
          s.completion k x r corrected c record =
            State.joinWaiters { w with mem := { MemPort.fresh with state := .failed } }) ∧
        (w.health.standing ≠ .failed → w.mem.holdPending = true →
          s.completion k x r corrected c record =
            (State.raiseHeld { w with mem := { MemPort.fresh with state := .held } }).joinWaiters) ∧
        (w.health.standing ≠ .failed → w.mem.holdPending = false →
          s.completion k x r corrected c record = State.joinWaiters { w with mem := MemPort.fresh })

/-- R133 to R137: a class changes the memory score by its weight, held within 0 to 255; the event's own record carries the new score; the
standing follows by the table of R135; a change hands over its MEMORY STANDING record and sets MEMORY, and a change to FAILED turns
every QUEUED slot to READY with MEMFAULT, a read with the fill word in every reserved word. Nothing else changes. -/
def Obligations.MemoryScoreFollowsTheClass : Prop :=
  ∀ (s : State) (c : HealthClass) (record : Nat → Option RecordBody) (n : Nat) (new : MemStanding) (v : State),
    n = (match c with
      | .clean => s.health.score - 1
      | .corrected => min 255 (s.health.score + 1)
      | .faulted => min 255 (s.health.score + 16)
      | .timeout => min 255 (s.health.score + 32)) →
    (s.health.standing ≠ .failed → 192 ≤ n → new = .failed) →
    (s.health.standing = .sound → 96 ≤ n → n < 192 → new = .doubtful) →
    (s.health.standing = .sound → n < 96 → new = .sound) →
    (s.health.standing = .doubtful → 64 ≤ n → n < 192 → new = .doubtful) →
    (s.health.standing = .doubtful → n < 64 → new = .sound) →
    (s.health.standing = .failed → new = .failed) →
    v = (match record n with
      | none => { s with health := ⟨n, new⟩ }
      | some b => { s.hand b with health := ⟨n, new⟩ }) →
      (new = s.health.standing → s.scoreMemory c record = v) ∧
      (new ≠ s.health.standing → new ≠ .failed →
        s.scoreMemory c record = (v.hand (.memoryStanding s.health.standing new .score n)).raiseMemory) ∧
      (new ≠ s.health.standing → new = .failed →
        ∃ t : State, s.scoreMemory c record = t ∧
          t = { (v.hand (.memoryStanding s.health.standing .failed .score n)).raiseMemory with slots := t.slots } ∧
          ∀ k, t.slot k = (s.slot k).map fun x =>
            if x.phase = .queued then
              { x with phase := .ready, outcome := some .memfault
                       words := if x.kind = .read then List.replicate x.reserved s.fill else x.words }
            else x)

/-- R86, R123, R149: the memory timeout. The ISSUED slot is READY with TIMEOUT, a read with the fill word in every reserved word, or freed
where it is an orphan; the class timeout is scored with its MEMORY TIMEOUT record; the port is DRAINING with ABORT raised, a fresh
abort timer and its pending hold kept, or FAILED with ABORT raised. That an issue which the memory has not taken is withdrawn is the
model's (MemPort.fresh, notes/assumptions/11.md). -/
def Obligations.MemoryTimeoutAborts : Prop :=
  ∀ (s : State) (k : SlotIx) (x : Slot), s.mem.state = .busy → s.mem.timer = some 0 → s.issued = some (k, x) →
    ∃ u v : State,
      (x.orphan = true → u.slot k = none ∧ u.freeWords = s.freeWords + x.reserved) ∧
      (x.orphan = false →
        u.slot k = some { x with
          phase := .ready, outcome := some .timeout, timer := none
          words := if x.kind = .read then List.replicate x.reserved s.fill else x.words } ∧
        u.freeWords = s.freeWords) ∧
      s.sameSlotsBut u k ∧ u = { s with slots := u.slots, freeWords := u.freeWords } ∧
      v = u.scoreMemory .timeout (fun n => some (.memoryTimeout x.master x.tag x.kind x.address x.orphan n)) ∧
      (v.health.standing = .failed →
        exec .memoryTimeout s =
          .next (State.joinWaiters { v with mem := { MemPort.fresh with state := .failed, abort := true } })) ∧
      (v.health.standing ≠ .failed →
        exec .memoryTimeout s = .next (State.joinWaiters { v with
          mem := { MemPort.fresh with state := .draining, abort := true, timer := some s.time.memoryTimeout
                                      holdPending := s.mem.holdPending } }))

/-- R125, R126, R137: an abort acknowledge at a DRAINING port ends the abort, with the port HELD and the HELD flag where a hold is pending
and IDLE otherwise; the expiry of the abort timer fails the memory with score 255, its record and its flag, leaves ABORT raised and
turns every QUEUED slot to READY with MEMFAULT. -/
def Obligations.AbortEnds : Prop :=
  ∀ s : State, s.mem.state = .draining →
    (s.mem.holdPending = true →
      exec .abortAcknowledge s = .next (State.raiseHeld { s with mem := { MemPort.fresh with state := .held } })) ∧
    (s.mem.holdPending = false → exec .abortAcknowledge s = .next { s with mem := MemPort.fresh }) ∧
    (s.mem.timer = some 0 →
      ∃ t : State, exec .abortTimeout s = .next t ∧
        t = { (State.hand s (.memoryStanding s.health.standing .failed .abortTimeout 255)).raiseMemory with
          slots := t.slots, health := t.health, mem := t.mem } ∧
        t.health = ⟨255, .failed⟩ ∧ t.mem = { MemPort.fresh with state := .failed, abort := true } ∧
        ∀ k, t.slot k = (s.slot k).map fun x =>
          if x.phase = .queued then
            { x with phase := .ready, outcome := some .memfault
                     words := if x.kind = .read then List.replicate x.reserved s.fill else x.words }
          else x)

/-- R120, R124, R130: an item of the memory that the port does not expect in its state is discarded: nothing changes. -/
def Obligations.UnexpectedItemsAreDiscarded : Prop :=
  ∀ (s : State) (w : Word) (status : BitVec 2) (last ok : Bool),
    (s.mem.state ≠ .busy → exec (.readBeat w status last) s = .next s ∧ exec (.writeAcknowledge ok) s = .next s) ∧
    (s.mem.state ≠ .draining → exec .abortAcknowledge s = .next s) ∧
    ∀ (k : SlotIx) (x : Slot), s.mem.state = .busy → s.issued = some (k, x) →
      (x.kind = .write → exec (.readBeat w status last) s = .next s) ∧
      (x.kind = .read → exec (.writeAcknowledge ok) s = .next s)

/-! ### The timebase and recovery by count -/

/-- R89, R147, R148, R152: a tick lowers every running timer by 1, raises the QUIET count of each ISOLATED master whose port has no head
request and sets the others' to 0, and leaves the divider count at 0; an edge of TCLK is counted, and the one that completes the division
gives the tick. While RESET is asserted nothing happens. That TICK gives the tick at every divider count, standing for the edges still
missing, is the model's (notes/assumptions/7.md), and so is that a timer at 0 waits there for its expiry (notes/assumptions/6.md). The
ticks that recover a master, or meet a CUTOFF event at a count of 255 (R95, notes/assumptions/19.md), are in QuietCountRecovers. -/
def Obligations.TicksCountDown : Prop :=
  ∀ s : State,
    (s.resetPin = true → exec .tick s = .next s ∧ exec .tclkEdge s = .next s) ∧
    (s.resetPin = false →
      (∀ m : Master, (s.conf m).standing = .isolated → (s.conf m).recovery = .quiet → 255 ≤ (s.conf m).count →
        ∃ r, (s.port m).head = some r ∧
          ((s.port m).pclr = true ∨ (s.port m).offer ≠ none ∨ (r.kind = .write ∧ 4 ≤ (s.port m).writeList.length))) →
      ∃ t : State, exec .tick s = .next t ∧
        (∀ k, t.slot k = (s.slot k).map fun x => { x with timer := x.timer.map (· - 1) }) ∧
        t.mem = { s.mem with timer := s.mem.timer.map (· - 1) } ∧ t.time = { s.time with count := 0 } ∧
        (∀ m : Master, t.conf m = { s.conf m with
          count := if (s.conf m).standing = .isolated ∧ (s.conf m).recovery = .quiet then
              (if (s.port m).head = none then (s.conf m).count + 1 else 0)
            else (s.conf m).count }) ∧
        t = { s with slots := t.slots, mem := t.mem, time := t.time, masters := t.masters }) ∧
    (s.resetPin = false → s.time.count + 1 < 2 ^ s.time.divider →
      exec .tclkEdge s = .next { s with time := { s.time with count := s.time.count + 1 } }) ∧
    (s.resetPin = false → 2 ^ s.time.divider ≤ s.time.count + 1 → exec .tclkEdge s = exec .tick s)

/-- R89, R92, R95, R148: the tick that brings the QUIET count of one or more ISOLATED masters to 256 recovers each of them within the
tick, in some order: ACTIVE with score, count and deferral count 0, CUT released, its STANDING record with cause QUIET handed over and
RECOVERY set; ports then join the wait list. A tick at the count 255 that meets a CUTOFF event due at the port is taken in either order
with it (R95): taken first it recovers the master, whose head request stays and is answered by no CUTOFF event; else a head request sets
the count to 0 (R89). QUIET_RECOVERY is the tick taken first for the master it names; which is first for another, and at TICK, is free
(notes/assumptions/19.md). With one master due and none free nothing is drawn; the order of several is free (notes/assumptions/4.md). That
QUIET_RECOVERY is the whole tick is the model's (notes/assumptions/7.md), and so is that the recoveries come before the expiries of that
tick (notes/assumptions/18.md). -/
def Obligations.QuietCountRecovers : Prop :=
  ∀ s : State,
    let counted : Master → Prop := fun m =>
      (s.conf m).standing = .isolated ∧ (s.conf m).recovery = .quiet ∧ 255 ≤ (s.conf m).count
    let silent : Master → Prop := fun m => counted m ∧ (s.port m).head = none
    let meets : Master → Prop := fun m => counted m ∧ ∃ r, (s.port m).head = some r ∧ (s.port m).pclr = false ∧
      (s.port m).offer = none ∧ (r.kind = .write → (s.port m).writeList.length < 4)
    let recovery : State → Master → State := fun v m =>
      State.raiseRecovery (State.hand
        ((v.setConf m { v.conf m with score := 0, standing := .active, count := 0, deferral := 0 }).setPort m
          { v.port m with cut := false })
        (.standing m .isolated .active .quiet 0 none))
    s.resetPin = false →
      (∀ c : Instr, (c = .tick ∧ (∃ m, silent m ∨ meets m) ∨ ∃ m, c = .quietRecovery m ∧ (silent m ∨ meets m)) →
        ∃ (t u : State) (first order : List Master) (draws : Nat),
          (∀ m ∈ first, meets m) ∧ order.Nodup ∧ (∀ m, m ∈ order ↔ silent m ∨ m ∈ first) ∧
          (∀ m, c = .quietRecovery m → m ∈ order) ∧
          ((∀ m, meets m → c = .quietRecovery m) → order.length = 1 → draws = s.draws) ∧
          exec c s = .next t ∧
          t = (let v : State := { order.foldl recovery u with draws := draws }; if order = [] then v else v.joinWaiters) ∧
          (∀ k, u.slot k = (s.slot k).map fun x => { x with timer := x.timer.map (· - 1) }) ∧
          u.mem = { s.mem with timer := s.mem.timer.map (· - 1) } ∧ u.time = { s.time with count := 0 } ∧
          (∀ n : Master, u.conf n = { s.conf n with
            count := if (s.conf n).standing = .isolated ∧ (s.conf n).recovery = .quiet then
                (if (s.port n).head = none ∨ n ∈ first then (s.conf n).count + 1 else 0)
              else (s.conf n).count }) ∧
          u = { s with slots := u.slots, mem := u.mem, time := u.time, masters := u.masters } ∧
          ∀ m ∈ order, (t.conf m).standing = .active ∧ (t.port m).head = (s.port m).head ∧ exec (.cutoffEvent m) t = .next t) ∧
      ∀ m, silent m → exec (.quietRecovery m) s = exec .tick s

/-- R90, R92, R121: at a completion with outcome DONE of a transaction that is no orphan, the count of every ISOLATED master in WITNESS rises
by 1, and each whose count reaches 128 recovers within the completion event, between the clean completion and the port's leaving BUSY:
ACTIVE with score, count and deferral count 0, CUT released, its STANDING record with cause WITNESS handed over and RECOVERY set. With one
master due nothing is drawn; the order of several is free (notes/assumptions/4.md). The items that are such a completion are spelled out.
That WITNESS_RECOVERY is the whole completion is the model's (notes/assumptions/7.md). -/
def Obligations.WitnessCountRecovers : Prop :=
  (∀ v : State,
    let due : Master → Prop := fun m =>
      (v.conf m).standing = .isolated ∧ (v.conf m).recovery = .witness ∧ 127 ≤ (v.conf m).count
    let recovery : State → Master → State := fun w m =>
      State.raiseRecovery (State.hand
        ((w.setConf m { w.conf m with score := 0, standing := .active, count := 0, deferral := 0 }).setPort m
          { w.port m with cut := false })
        (.standing m .isolated .active .witness 0 none))
    ∃ (u : State) (order : List Master) (draws : Nat),
      order.Nodup ∧ (∀ m, m ∈ order ↔ due m) ∧ (order.length ≤ 1 → draws = v.draws) ∧
      v.witness = { order.foldl recovery u with draws := draws } ∧
      (∀ n : Master, u.conf n = { v.conf n with
        count := if (v.conf n).standing = .isolated ∧ (v.conf n).recovery = .witness then (v.conf n).count + 1
          else (v.conf n).count }) ∧
      u = { v with masters := u.masters }) ∧
  (∀ (s : State) (word : Word) (status : BitVec 2) (last ok : Bool),
    let atMemory : (Slot → Prop) → Prop := fun q =>
      s.mem.state = .busy ∧ ∃ k x, s.issued = some (k, x) ∧ x.orphan = false ∧ q x
    (s.completesClean (.readBeat word status last) = true ↔ atMemory fun x =>
      x.kind = .read ∧ last = true ∧ s.mem.sawBad = false ∧ x.beats.val ≤ s.mem.received + 1 ∧
        (x.beats.val ≤ s.mem.received ∨ status.toNat < 2)) ∧
    (s.completesClean (.writeAck ok) = true ↔ atMemory fun x =>
      x.kind = .write ∧ ok = true ∧ x.beats.val ≤ s.mem.taken)) ∧
  ∀ (s : State) (m : Master) (item : MemoryItem),
    s.completesClean item = true → (s.conf m).standing = .isolated → (s.conf m).recovery = .witness →
    s.held m = 0 →
      ((s.conf m).count = 127 →
        ∃ v t : State, exec (.witnessRecovery m item) s = .next t ∧ t = v.witness.leaveBusy.joinWaiters ∧
          (∀ n, s.held n = 0 → v.conf n = s.conf n ∧ v.port n = s.port n) ∧
          (∀ word status last, item = .readBeat word status last →
            exec (.readBeat word status last) s = exec (.witnessRecovery m item) s) ∧
          (∀ ok, item = .writeAck ok → exec (.writeAcknowledge ok) s = exec (.witnessRecovery m item) s) ∧
          (t.conf m).standing = .active ∧ (t.conf m).score = 0 ∧ (t.conf m).count = 0 ∧ (t.conf m).deferral = 0 ∧
          (t.conf m).recovery = .witness ∧ t.port m = { s.port m with cut := false } ∧ t.alerts.flags.recovery = true) ∧
      ((s.conf m).count < 127 →
        ∃ t : State,
          (∀ word status last, item = .readBeat word status last → exec (.readBeat word status last) s = .next t) ∧
          (∀ ok, item = .writeAck ok → exec (.writeAcknowledge ok) s = .next t) ∧
          (t.conf m).count = (s.conf m).count + 1 ∧ (t.conf m).standing = .isolated)

/-! ### Resets -/

/-- R19, R20, R42, R58, R78, R97, R112, R131, R145, R153, R163, R169, R181, R182: the values after a power-on reset, and from the
assertion of RESET: every block at its starting values, the origin POWER or PIN, the retained answer NONE. After a power-on reset the
write-data lists are empty; after a pin reset every entry is a discard entry. Requests presented stay presented. That the head requests
stay presented at a power-on reset, which levels the inputs have, and that the origin is PIN at once where RESET is asserted at power-on,
is the model's (notes/assumptions/10.md); what SDOUT shows with SSEL asserted is left open (notes/assumptions/5.md). A port whose PCLR
input is asserted at the end of the power-on reset, or at the release of RESET, is cleared, each with its own PORT CLEARED record, which
is the first record of the queue after power-on and has no dropped slot, several of them in an order that is free
(notes/assumptions/4.md). At the release the unit goes on from the values it holds. That a request waiting on the channel of a port whose
PCLR input is released becomes its head request then, and stays on the channel elsewhere, is the model's (notes/assumptions/13.md). -/
def Obligations.PowerAndPinResetsTakeTheirValues : Prop :=
  (∀ s : State,
    let cleared : State → Origin → State := fun t o =>
      { slots := Vector.replicate 16 none
        counters := Vector.replicate 4 0#8
        ports := t.ports
        freeWords := 64
        waitList := []
        windows := Vector.replicate 16 { live := false, base := 0#24, last := 0#24, rights := Vector.replicate 4 .none }
        mode := .pass
        fill := 0xFFFFFFFF#32
        masters := Vector.replicate 4 { score := 0, standing := .active, recovery := .quiet, count := 0, deferral := 0
                                        waitListed := false }
        pointer := 3
        deferral := 4
        mem := { state := .idle, holdPending := false, abort := false, timer := none, received := 0, sawBad := false
                 sawCorrected := false, taken := 0, issueOffered := false }
        health := { score := 0, standing := .sound }
        time := { divider := 4, count := 0, masterTimeout := 64, memoryTimeout := 64 }
        queue := { records := [], nextSeq := 0#16, lost := 0, mask := 0x6FF#11 }
        alerts := { flags := ⟨false, false, false, false, false, false⟩, enables := ⟨false, false, false, false, false, false⟩
                    line := false }
        link := { ssel := s.link.ssel, sclk := s.link.sclk, frame := none, retained := some ⟨.none, []⟩, origin := o
                  sdout := if s.link.ssel then t.link.sdout else none, given := [] }
        resetPin := t.resetPin
        draws := t.draws
        pending := s.pending }
    (s.resetPin = false →
      ∃ (t : State) (order : List Master), exec .powerOnReset s = .next t ∧ t.resetPin = false ∧ order.Nodup ∧
        (∀ p : Master, p ∈ order ↔ (s.port p).pclr = true) ∧
        (let v := order.foldl (fun (w : State) p => w.hand (.portCleared p 0)) (cleared t .power)
         t = { cleared t .power with queue := v.queue, alerts := v.alerts }) ∧
        ∀ p : Master, t.port p =
          { head := if (s.port p).pclr = true then none
              else if (s.port p).head = none then (s.port p).waiting else (s.port p).head
            waiting := if (s.port p).pclr = false ∧ (s.port p).head = none then none else (s.port p).waiting
            writeList := [], offer := none, pclr := (s.port p).pclr, cut := false }) ∧
    (s.resetPin = false →
      ∃ t : State, exec .resetAssertion s = .next t ∧ t = cleared t .pin ∧ t.resetPin = true ∧
        ∀ p : Master, t.port p =
          { head := (s.port p).head, waiting := (s.port p).waiting
            writeList := (s.port p).writeList.map fun _ => .discard, offer := none, pclr := (s.port p).pclr, cut := false }) ∧
    (s.resetPin = true →
      ∃ t : State, exec .powerOnReset s = .next t ∧ t = cleared t .pin ∧ t.resetPin = true ∧
        ∀ p : Master, t.port p =
          { head := (s.port p).head, waiting := (s.port p).waiting, writeList := [], offer := none, pclr := (s.port p).pclr
            cut := false })) ∧
  ∀ s : State, s.resetPin = true →
    ∃ (u : State) (order : List Master) (draws : Nat), order.Nodup ∧ (∀ p : Master, p ∈ order ↔ (s.port p).pclr = true) ∧
      (order.length ≤ 1 → draws = s.draws) ∧
      exec .resetRelease s = .next (State.joinWaiters { order.foldl State.portClear u with draws := draws }) ∧
      (∀ p : Master, u.port p =
        if (s.port p).pclr = false ∧ (s.port p).head = none then
          { s.port p with head := (s.port p).waiting, waiting := none }
        else s.port p) ∧
      u = { s with resetPin := false, ports := u.ports }

/-- R19, R20, R42, R59, R78, R97, R112, R132, R145, R153, R163, R169, R183: the service reset returns working state to its starting values
and keeps the settings: window table, mode, fill word, recovery modes, D, divider setting and timeouts, record mask and enables.
A BUSY or DRAINING port is DRAINING with ABORT raised and a fresh abort timer, every other is IDLE. The answer OK is retained. That the
issue of a BUSY port which the memory has not taken is withdrawn is the model's (MemPort.fresh, notes/assumptions/11.md). -/
def Obligations.ServiceResetKeepsTheSettings : Prop :=
  ∀ (s : State) (f : List Byte), s.takesFrame .resetPart f →
    ∃ u : State, exec .resetPart s = .next (u.answered f ⟨.ok, []⟩) ∧
      u = { s with
        slots := Vector.replicate 16 none
        counters := Vector.replicate 4 0#8
        ports := u.ports
        freeWords := 64
        waitList := []
        masters := u.masters
        pointer := 3
        mem := u.mem
        health := { score := 0, standing := .sound }
        time := { s.time with count := 0 }
        queue := { s.queue with records := [], nextSeq := 0#16, lost := 0 }
        alerts := { s.alerts with flags := ⟨false, false, false, false, false, false⟩, line := false }
        link := { s.link with origin := .service } } ∧
      (∀ p : Master, u.port p = { s.port p with
        writeList := (s.port p).writeList.map fun _ => .discard, offer := none, cut := false }) ∧
      (∀ m : Master, u.conf m = { score := 0, standing := .active, recovery := (s.conf m).recovery, count := 0, deferral := 0
                                  waitListed := false }) ∧
      (s.mem.state = .busy ∨ s.mem.state = .draining →
        u.mem = { MemPort.fresh with state := .draining, abort := true, timer := some s.time.memoryTimeout }) ∧
      (s.mem.state ≠ .busy → s.mem.state ≠ .draining → u.mem = MemPort.fresh)

/-! ### Rules of the whole machine -/

/-- R2, R5, R10, R46, R54, R56: what is fixed for the life of a slot. Whatever command is carried out, a live slot is freed or keeps its
master, tag, kind, address, beats, reserved words, window and admission number, an orphan stays one, and its phase stays or moves by
a line of R5. -/
def Obligations.SlotsKeepTheirIdentity : Prop :=
  ∀ (c : Instr) (s t : State) (k : SlotIx) (x y : Slot),
    s.FillsSound → exec c s = .next t → s.slot k = some x → t.slot k = some y →
      y.master = x.master ∧ y.tag = x.tag ∧ y.kind = x.kind ∧ y.address = x.address ∧ y.beats = x.beats ∧
      y.reserved = x.reserved ∧ y.window = x.window ∧ y.admission = x.admission ∧ (x.orphan = true → y.orphan = true) ∧
      (y.phase = x.phase ∨ (x.phase = .filling ∧ (y.phase = .queued ∨ y.phase = .ready)) ∨
        (x.phase = .queued ∧ (y.phase = .issued ∨ y.phase = .ready)) ∨ (x.phase = .issued ∧ y.phase = .ready) ∨
        (x.phase = .ready ∧ y.phase = .delivering))

/-- R91: a master ISOLATED under MANUAL with count 0 stays ISOLATED with count 0 at every command but RESTORE naming it, a SET RECOVERY
naming it and a part reset (R97), and READ MASTER reports its count as 0. RESTORE naming it recovers it. -/
def Obligations.ManualRecoversByRestoreAlone : Prop :=
  (∀ (c : Instr) (s t : State) (m : Master) (b : Byte), b.toNat = m.val →
    (s.conf m).standing = .isolated → (s.conf m).recovery = .manual → (s.conf m).count = 0 →
    commandIsReset c = false → c ≠ .restore b → (∀ r, c ≠ .setRecovery b r) → exec c s = .next t →
      (t.conf m).standing = .isolated ∧ (t.conf m).recovery = .manual ∧ (t.conf m).count = 0 ∧
      ((t.masterData m).drop 4).take 2 = [0x00#8, 0x00#8]) ∧
  (∀ (s : State) (m : Master) (b : Byte) (f : List Byte), b.toNat = m.val →
    (s.conf m).standing = .isolated → (s.conf m).recovery = .manual → s.takesFrame (.restore b) f →
      ∃ t : State, exec (.restore b) s = .next t ∧ (t.conf m).standing = .active ∧ (t.conf m).score = 0)

/-- R52: in PASS mode no command changes an issue score, but for ISOLATE, RESTORE and CLEAR SCORE, a part reset, and the recovery of an
ISOLATED master, which sets its score to 0. -/
def Obligations.PassModeMovesNoScore : Prop :=
  ∀ (c : Instr) (s t : State) (m : Master),
    s.mode = .pass → commandIsReset c = false → (∀ b, c ≠ .isolate b ∧ c ≠ .restore b ∧ c ≠ .clearScore b) →
    exec c s = .next t →
      (t.conf m).score = (s.conf m).score ∧ (t.conf m).standing = (s.conf m).standing ∨
      (s.conf m).standing = .isolated ∧ (t.conf m).standing = .active ∧ (t.conf m).score = 0

/-- R154, R155, R161, R163, R164: but for a part reset, stored records stand as they were written, with new ones behind them, and only
POP FAULT removes one, the oldest; a sticky flag stays set but for CLEAR ALERTS. -/
def Obligations.RecordsAndFlagsStand : Prop :=
  ∀ (c : Instr) (s t : State), commandIsReset c = false → exec c s = .next t →
    (c ≠ .popFault → ∃ added, t.queue.records = s.queue.records ++ added) ∧
    (c = .popFault → t.queue.records = s.queue.records ∨ t.queue.records = s.queue.records.tail) ∧
    ((∀ b, c ≠ .clearAlerts b) →
      (s.alerts.flags.standing = true → t.alerts.flags.standing = true) ∧
      (s.alerts.flags.recovery = true → t.alerts.flags.recovery = true) ∧
      (s.alerts.flags.memory = true → t.alerts.flags.memory = true) ∧
      (s.alerts.flags.loss = true → t.alerts.flags.loss = true) ∧ (s.alerts.flags.held = true → t.alerts.flags.held = true))

/-! ### Invariants -/

/-- R61, R72, R83: every step keeps score, standing, CUT and deferral count in agreement. -/
def Obligations.StepKeepsScoresAndStanding : Prop :=
  ∀ s t : State, s.ScoresAgree → step s = .next t → t.ScoresAgree

/-- R12, R28: every step keeps the free count of the data buffer at 64 minus the reserved words of the live slots, and each master at no
more than four live non-orphan slots, an ISOLATED master at none. -/
def Obligations.StepKeepsBufferAndSlotLimits : Prop :=
  (∀ s t : State, s.BufferAccounted → step s = .next t → t.BufferAccounted) ∧
  (∀ s t : State, s.LimitsKept → step s = .next t → t.LimitsKept)

/-- R154, R158, R165, R167: every step keeps the fault queue within its size and its records numbered with their losses, QUEUE set exactly
when a record is stored, and ALERT asserted exactly when an enabled flag is set (alertLevel, spelled out in AlertCommandsAct). -/
def Obligations.StepKeepsTheQueueNumbered : Prop :=
  ∀ s t : State, s.QueueNumbered → step s = .next t → t.QueueNumbered

/-- R30, R60: every step keeps the wait list without repeats and without the port of an ISOLATED master, mirrored by the wait-listed
fields. -/
def Obligations.StepKeepsTheWaitList : Prop :=
  ∀ s t : State, s.WaitListSound → step s = .next t → t.WaitListSound

/-- R3, R15, R22, R29, R113, R116, R135, R137: every step keeps the write-data lists sound, with them the memory port, the memory standing
and the slots in agreement, and with these the words that each slot keeps: a word for each beat filled or received, and for a READY
read that is not PROTOCOL the word of every beat. That no issue is offered outside BUSY, which MemPort.sound holds, is the model's
(notes/assumptions/11.md). -/
def Obligations.StepKeepsThePortAgreement : Prop :=
  (∀ s t : State, s.FillsSound → step s = .next t → t.FillsSound) ∧
  (∀ s t : State, s.PortAgrees → step s = .next t → t.PortAgrees) ∧
  (∀ s t : State, s.PortAgrees → s.WordsKept → step s = .next t → t.WordsKept)

/-- R43, R88, R146, R170, R171: every step keeps the recovery counts below their recovery, the window entries and the timebase in their
ranges, and the frame in progress and the retained answer in agreement. -/
def Obligations.StepKeepsCountsSettingsAndLink : Prop :=
  ∀ s t : State, step s = .next t →
    (s.CountsBounded → t.CountsBounded) ∧ (s.SettingsInRange → t.SettingsInRange) ∧ (s.LinkSound → t.LinkSound)

/-- The invariants hold right after a power-on reset. -/
def Obligations.ResetHasTheInvariants : Prop :=
  State.reset.ScoresAgree ∧ State.reset.BufferAccounted ∧ State.reset.LimitsKept ∧ State.reset.QueueNumbered ∧
    State.reset.WaitListSound ∧ State.reset.PortAgrees ∧ State.reset.CountsBounded ∧ State.reset.SettingsInRange ∧
    State.reset.LinkSound ∧ State.reset.WordsKept
end

