-- ==== Sys2Proof/Laws/State.lean ====
section
/-! SUPPORT. The small lemmas of State: for each update, one lemma per field that says what the field is after it, and the reading of
the banks (slots, ports, records, counters, windows) after a write of one of them. -/

namespace Sys2Proof.Machine


/-! ### setSlot -/

@[simp] theorem State.setSlot_slots (s : State) (k : SlotIx) (x : Option Slot) :
    (s.setSlot k x).slots = s.slots.set k x := rfl
@[simp] theorem State.setSlot_counters (s : State) (k : SlotIx) (x : Option Slot) :
    (s.setSlot k x).counters = s.counters := rfl
@[simp] theorem State.setSlot_ports (s : State) (k : SlotIx) (x : Option Slot) : (s.setSlot k x).ports = s.ports := rfl
@[simp] theorem State.setSlot_freeWords (s : State) (k : SlotIx) (x : Option Slot) :
    (s.setSlot k x).freeWords = s.freeWords := rfl
@[simp] theorem State.setSlot_waitList (s : State) (k : SlotIx) (x : Option Slot) :
    (s.setSlot k x).waitList = s.waitList := rfl
@[simp] theorem State.setSlot_windows (s : State) (k : SlotIx) (x : Option Slot) : (s.setSlot k x).windows = s.windows := rfl
@[simp] theorem State.setSlot_mode (s : State) (k : SlotIx) (x : Option Slot) : (s.setSlot k x).mode = s.mode := rfl
@[simp] theorem State.setSlot_fill (s : State) (k : SlotIx) (x : Option Slot) : (s.setSlot k x).fill = s.fill := rfl
@[simp] theorem State.setSlot_masters (s : State) (k : SlotIx) (x : Option Slot) : (s.setSlot k x).masters = s.masters := rfl
@[simp] theorem State.setSlot_pointer (s : State) (k : SlotIx) (x : Option Slot) : (s.setSlot k x).pointer = s.pointer := rfl
@[simp] theorem State.setSlot_deferral (s : State) (k : SlotIx) (x : Option Slot) :
    (s.setSlot k x).deferral = s.deferral := rfl
@[simp] theorem State.setSlot_mem (s : State) (k : SlotIx) (x : Option Slot) : (s.setSlot k x).mem = s.mem := rfl
@[simp] theorem State.setSlot_health (s : State) (k : SlotIx) (x : Option Slot) : (s.setSlot k x).health = s.health := rfl
@[simp] theorem State.setSlot_time (s : State) (k : SlotIx) (x : Option Slot) : (s.setSlot k x).time = s.time := rfl
@[simp] theorem State.setSlot_queue (s : State) (k : SlotIx) (x : Option Slot) : (s.setSlot k x).queue = s.queue := rfl
@[simp] theorem State.setSlot_alerts (s : State) (k : SlotIx) (x : Option Slot) : (s.setSlot k x).alerts = s.alerts := rfl
@[simp] theorem State.setSlot_link (s : State) (k : SlotIx) (x : Option Slot) : (s.setSlot k x).link = s.link := rfl
@[simp] theorem State.setSlot_resetPin (s : State) (k : SlotIx) (x : Option Slot) :
    (s.setSlot k x).resetPin = s.resetPin := rfl
@[simp] theorem State.setSlot_draws (s : State) (k : SlotIx) (x : Option Slot) : (s.setSlot k x).draws = s.draws := rfl
@[simp] theorem State.setSlot_pending (s : State) (k : SlotIx) (x : Option Slot) : (s.setSlot k x).pending = s.pending := rfl
@[simp] theorem State.setSlot_port (s : State) (k : SlotIx) (x : Option Slot) (q : Master) :
    (s.setSlot k x).port q = s.port q := rfl
@[simp] theorem State.setSlot_conf (s : State) (k : SlotIx) (x : Option Slot) (n : Master) :
    (s.setSlot k x).conf n = s.conf n := rfl
@[simp] theorem State.setSlot_counter (s : State) (k : SlotIx) (x : Option Slot) (n : Master) :
    (s.setSlot k x).counter n = s.counter n := rfl
@[simp] theorem State.setSlot_window (s : State) (k : SlotIx) (x : Option Slot) (j : WindowIx) :
    (s.setSlot k x).window j = s.window j := rfl

/-! ### setPort -/

@[simp] theorem State.setPort_slots (s : State) (p : Master) (x : Port) : (s.setPort p x).slots = s.slots := rfl
@[simp] theorem State.setPort_counters (s : State) (p : Master) (x : Port) : (s.setPort p x).counters = s.counters := rfl
@[simp] theorem State.setPort_ports (s : State) (p : Master) (x : Port) : (s.setPort p x).ports = s.ports.set p x := rfl
@[simp] theorem State.setPort_freeWords (s : State) (p : Master) (x : Port) : (s.setPort p x).freeWords = s.freeWords := rfl
@[simp] theorem State.setPort_waitList (s : State) (p : Master) (x : Port) : (s.setPort p x).waitList = s.waitList := rfl
@[simp] theorem State.setPort_windows (s : State) (p : Master) (x : Port) : (s.setPort p x).windows = s.windows := rfl
@[simp] theorem State.setPort_mode (s : State) (p : Master) (x : Port) : (s.setPort p x).mode = s.mode := rfl
@[simp] theorem State.setPort_fill (s : State) (p : Master) (x : Port) : (s.setPort p x).fill = s.fill := rfl
@[simp] theorem State.setPort_masters (s : State) (p : Master) (x : Port) : (s.setPort p x).masters = s.masters := rfl
@[simp] theorem State.setPort_pointer (s : State) (p : Master) (x : Port) : (s.setPort p x).pointer = s.pointer := rfl
@[simp] theorem State.setPort_deferral (s : State) (p : Master) (x : Port) : (s.setPort p x).deferral = s.deferral := rfl
@[simp] theorem State.setPort_mem (s : State) (p : Master) (x : Port) : (s.setPort p x).mem = s.mem := rfl
@[simp] theorem State.setPort_health (s : State) (p : Master) (x : Port) : (s.setPort p x).health = s.health := rfl
@[simp] theorem State.setPort_time (s : State) (p : Master) (x : Port) : (s.setPort p x).time = s.time := rfl
@[simp] theorem State.setPort_queue (s : State) (p : Master) (x : Port) : (s.setPort p x).queue = s.queue := rfl
@[simp] theorem State.setPort_alerts (s : State) (p : Master) (x : Port) : (s.setPort p x).alerts = s.alerts := rfl
@[simp] theorem State.setPort_link (s : State) (p : Master) (x : Port) : (s.setPort p x).link = s.link := rfl
@[simp] theorem State.setPort_resetPin (s : State) (p : Master) (x : Port) : (s.setPort p x).resetPin = s.resetPin := rfl
@[simp] theorem State.setPort_draws (s : State) (p : Master) (x : Port) : (s.setPort p x).draws = s.draws := rfl
@[simp] theorem State.setPort_pending (s : State) (p : Master) (x : Port) : (s.setPort p x).pending = s.pending := rfl
@[simp] theorem State.setPort_slot (s : State) (p : Master) (x : Port) (j : SlotIx) : (s.setPort p x).slot j = s.slot j := rfl
@[simp] theorem State.setPort_conf (s : State) (p : Master) (x : Port) (n : Master) : (s.setPort p x).conf n = s.conf n := rfl
@[simp] theorem State.setPort_counter (s : State) (p : Master) (x : Port) (n : Master) :
    (s.setPort p x).counter n = s.counter n := rfl
@[simp] theorem State.setPort_window (s : State) (p : Master) (x : Port) (j : WindowIx) :
    (s.setPort p x).window j = s.window j := rfl

/-! ### setConf -/

@[simp] theorem State.setConf_slots (s : State) (m : Master) (c : Confinement) : (s.setConf m c).slots = s.slots := rfl
@[simp] theorem State.setConf_counters (s : State) (m : Master) (c : Confinement) :
    (s.setConf m c).counters = s.counters := rfl
@[simp] theorem State.setConf_ports (s : State) (m : Master) (c : Confinement) : (s.setConf m c).ports = s.ports := rfl
@[simp] theorem State.setConf_freeWords (s : State) (m : Master) (c : Confinement) :
    (s.setConf m c).freeWords = s.freeWords := rfl
@[simp] theorem State.setConf_waitList (s : State) (m : Master) (c : Confinement) :
    (s.setConf m c).waitList = s.waitList := rfl
@[simp] theorem State.setConf_windows (s : State) (m : Master) (c : Confinement) : (s.setConf m c).windows = s.windows := rfl
@[simp] theorem State.setConf_mode (s : State) (m : Master) (c : Confinement) : (s.setConf m c).mode = s.mode := rfl
@[simp] theorem State.setConf_fill (s : State) (m : Master) (c : Confinement) : (s.setConf m c).fill = s.fill := rfl
@[simp] theorem State.setConf_masters (s : State) (m : Master) (c : Confinement) :
    (s.setConf m c).masters = s.masters.set m c := rfl
@[simp] theorem State.setConf_pointer (s : State) (m : Master) (c : Confinement) : (s.setConf m c).pointer = s.pointer := rfl
@[simp] theorem State.setConf_deferral (s : State) (m : Master) (c : Confinement) :
    (s.setConf m c).deferral = s.deferral := rfl
@[simp] theorem State.setConf_mem (s : State) (m : Master) (c : Confinement) : (s.setConf m c).mem = s.mem := rfl
@[simp] theorem State.setConf_health (s : State) (m : Master) (c : Confinement) : (s.setConf m c).health = s.health := rfl
@[simp] theorem State.setConf_time (s : State) (m : Master) (c : Confinement) : (s.setConf m c).time = s.time := rfl
@[simp] theorem State.setConf_queue (s : State) (m : Master) (c : Confinement) : (s.setConf m c).queue = s.queue := rfl
@[simp] theorem State.setConf_alerts (s : State) (m : Master) (c : Confinement) : (s.setConf m c).alerts = s.alerts := rfl
@[simp] theorem State.setConf_link (s : State) (m : Master) (c : Confinement) : (s.setConf m c).link = s.link := rfl
@[simp] theorem State.setConf_resetPin (s : State) (m : Master) (c : Confinement) :
    (s.setConf m c).resetPin = s.resetPin := rfl
@[simp] theorem State.setConf_draws (s : State) (m : Master) (c : Confinement) : (s.setConf m c).draws = s.draws := rfl
@[simp] theorem State.setConf_pending (s : State) (m : Master) (c : Confinement) : (s.setConf m c).pending = s.pending := rfl
@[simp] theorem State.setConf_slot (s : State) (m : Master) (c : Confinement) (j : SlotIx) :
    (s.setConf m c).slot j = s.slot j := rfl
@[simp] theorem State.setConf_port (s : State) (m : Master) (c : Confinement) (q : Master) :
    (s.setConf m c).port q = s.port q := rfl
@[simp] theorem State.setConf_counter (s : State) (m : Master) (c : Confinement) (n : Master) :
    (s.setConf m c).counter n = s.counter n := rfl
@[simp] theorem State.setConf_window (s : State) (m : Master) (c : Confinement) (j : WindowIx) :
    (s.setConf m c).window j = s.window j := rfl

/-! ### setCounter -/

@[simp] theorem State.setCounter_slots (s : State) (m : Master) (c : Serial) : (s.setCounter m c).slots = s.slots := rfl
@[simp] theorem State.setCounter_counters (s : State) (m : Master) (c : Serial) :
    (s.setCounter m c).counters = s.counters.set m c := rfl
@[simp] theorem State.setCounter_ports (s : State) (m : Master) (c : Serial) : (s.setCounter m c).ports = s.ports := rfl
@[simp] theorem State.setCounter_freeWords (s : State) (m : Master) (c : Serial) :
    (s.setCounter m c).freeWords = s.freeWords := rfl
@[simp] theorem State.setCounter_waitList (s : State) (m : Master) (c : Serial) :
    (s.setCounter m c).waitList = s.waitList := rfl
@[simp] theorem State.setCounter_windows (s : State) (m : Master) (c : Serial) : (s.setCounter m c).windows = s.windows := rfl
@[simp] theorem State.setCounter_mode (s : State) (m : Master) (c : Serial) : (s.setCounter m c).mode = s.mode := rfl
@[simp] theorem State.setCounter_fill (s : State) (m : Master) (c : Serial) : (s.setCounter m c).fill = s.fill := rfl
@[simp] theorem State.setCounter_masters (s : State) (m : Master) (c : Serial) : (s.setCounter m c).masters = s.masters := rfl
@[simp] theorem State.setCounter_pointer (s : State) (m : Master) (c : Serial) : (s.setCounter m c).pointer = s.pointer := rfl
@[simp] theorem State.setCounter_deferral (s : State) (m : Master) (c : Serial) :
    (s.setCounter m c).deferral = s.deferral := rfl
@[simp] theorem State.setCounter_mem (s : State) (m : Master) (c : Serial) : (s.setCounter m c).mem = s.mem := rfl
@[simp] theorem State.setCounter_health (s : State) (m : Master) (c : Serial) : (s.setCounter m c).health = s.health := rfl
@[simp] theorem State.setCounter_time (s : State) (m : Master) (c : Serial) : (s.setCounter m c).time = s.time := rfl
@[simp] theorem State.setCounter_queue (s : State) (m : Master) (c : Serial) : (s.setCounter m c).queue = s.queue := rfl
@[simp] theorem State.setCounter_alerts (s : State) (m : Master) (c : Serial) : (s.setCounter m c).alerts = s.alerts := rfl
@[simp] theorem State.setCounter_link (s : State) (m : Master) (c : Serial) : (s.setCounter m c).link = s.link := rfl
@[simp] theorem State.setCounter_resetPin (s : State) (m : Master) (c : Serial) :
    (s.setCounter m c).resetPin = s.resetPin := rfl
@[simp] theorem State.setCounter_draws (s : State) (m : Master) (c : Serial) : (s.setCounter m c).draws = s.draws := rfl
@[simp] theorem State.setCounter_pending (s : State) (m : Master) (c : Serial) : (s.setCounter m c).pending = s.pending := rfl
@[simp] theorem State.setCounter_slot (s : State) (m : Master) (c : Serial) (j : SlotIx) :
    (s.setCounter m c).slot j = s.slot j := rfl
@[simp] theorem State.setCounter_port (s : State) (m : Master) (c : Serial) (q : Master) :
    (s.setCounter m c).port q = s.port q := rfl
@[simp] theorem State.setCounter_conf (s : State) (m : Master) (c : Serial) (n : Master) :
    (s.setCounter m c).conf n = s.conf n := rfl
@[simp] theorem State.setCounter_window (s : State) (m : Master) (c : Serial) (j : WindowIx) :
    (s.setCounter m c).window j = s.window j := rfl

/-! ### setWindow -/

@[simp] theorem State.setWindow_slots (s : State) (i : WindowIx) (w : Window) : (s.setWindow i w).slots = s.slots := rfl
@[simp] theorem State.setWindow_counters (s : State) (i : WindowIx) (w : Window) :
    (s.setWindow i w).counters = s.counters := rfl
@[simp] theorem State.setWindow_ports (s : State) (i : WindowIx) (w : Window) : (s.setWindow i w).ports = s.ports := rfl
@[simp] theorem State.setWindow_freeWords (s : State) (i : WindowIx) (w : Window) :
    (s.setWindow i w).freeWords = s.freeWords := rfl
@[simp] theorem State.setWindow_waitList (s : State) (i : WindowIx) (w : Window) :
    (s.setWindow i w).waitList = s.waitList := rfl
@[simp] theorem State.setWindow_windows (s : State) (i : WindowIx) (w : Window) :
    (s.setWindow i w).windows = s.windows.set i w := rfl
@[simp] theorem State.setWindow_mode (s : State) (i : WindowIx) (w : Window) : (s.setWindow i w).mode = s.mode := rfl
@[simp] theorem State.setWindow_fill (s : State) (i : WindowIx) (w : Window) : (s.setWindow i w).fill = s.fill := rfl
@[simp] theorem State.setWindow_masters (s : State) (i : WindowIx) (w : Window) : (s.setWindow i w).masters = s.masters := rfl
@[simp] theorem State.setWindow_pointer (s : State) (i : WindowIx) (w : Window) : (s.setWindow i w).pointer = s.pointer := rfl
@[simp] theorem State.setWindow_deferral (s : State) (i : WindowIx) (w : Window) :
    (s.setWindow i w).deferral = s.deferral := rfl
@[simp] theorem State.setWindow_mem (s : State) (i : WindowIx) (w : Window) : (s.setWindow i w).mem = s.mem := rfl
@[simp] theorem State.setWindow_health (s : State) (i : WindowIx) (w : Window) : (s.setWindow i w).health = s.health := rfl
@[simp] theorem State.setWindow_time (s : State) (i : WindowIx) (w : Window) : (s.setWindow i w).time = s.time := rfl
@[simp] theorem State.setWindow_queue (s : State) (i : WindowIx) (w : Window) : (s.setWindow i w).queue = s.queue := rfl
@[simp] theorem State.setWindow_alerts (s : State) (i : WindowIx) (w : Window) : (s.setWindow i w).alerts = s.alerts := rfl
@[simp] theorem State.setWindow_link (s : State) (i : WindowIx) (w : Window) : (s.setWindow i w).link = s.link := rfl
@[simp] theorem State.setWindow_resetPin (s : State) (i : WindowIx) (w : Window) :
    (s.setWindow i w).resetPin = s.resetPin := rfl
@[simp] theorem State.setWindow_draws (s : State) (i : WindowIx) (w : Window) : (s.setWindow i w).draws = s.draws := rfl
@[simp] theorem State.setWindow_pending (s : State) (i : WindowIx) (w : Window) : (s.setWindow i w).pending = s.pending := rfl
@[simp] theorem State.setWindow_slot (s : State) (i : WindowIx) (w : Window) (j : SlotIx) :
    (s.setWindow i w).slot j = s.slot j := rfl
@[simp] theorem State.setWindow_port (s : State) (i : WindowIx) (w : Window) (q : Master) :
    (s.setWindow i w).port q = s.port q := rfl
@[simp] theorem State.setWindow_conf (s : State) (i : WindowIx) (w : Window) (n : Master) :
    (s.setWindow i w).conf n = s.conf n := rfl
@[simp] theorem State.setWindow_counter (s : State) (i : WindowIx) (w : Window) (n : Master) :
    (s.setWindow i w).counter n = s.counter n := rfl

/-! ### withFlags -/

@[simp] theorem State.withFlags_slots (s : State) (f : AlertSet) : (s.withFlags f).slots = s.slots := rfl
@[simp] theorem State.withFlags_counters (s : State) (f : AlertSet) : (s.withFlags f).counters = s.counters := rfl
@[simp] theorem State.withFlags_ports (s : State) (f : AlertSet) : (s.withFlags f).ports = s.ports := rfl
@[simp] theorem State.withFlags_freeWords (s : State) (f : AlertSet) : (s.withFlags f).freeWords = s.freeWords := rfl
@[simp] theorem State.withFlags_waitList (s : State) (f : AlertSet) : (s.withFlags f).waitList = s.waitList := rfl
@[simp] theorem State.withFlags_windows (s : State) (f : AlertSet) : (s.withFlags f).windows = s.windows := rfl
@[simp] theorem State.withFlags_mode (s : State) (f : AlertSet) : (s.withFlags f).mode = s.mode := rfl
@[simp] theorem State.withFlags_fill (s : State) (f : AlertSet) : (s.withFlags f).fill = s.fill := rfl
@[simp] theorem State.withFlags_masters (s : State) (f : AlertSet) : (s.withFlags f).masters = s.masters := rfl
@[simp] theorem State.withFlags_pointer (s : State) (f : AlertSet) : (s.withFlags f).pointer = s.pointer := rfl
@[simp] theorem State.withFlags_deferral (s : State) (f : AlertSet) : (s.withFlags f).deferral = s.deferral := rfl
@[simp] theorem State.withFlags_mem (s : State) (f : AlertSet) : (s.withFlags f).mem = s.mem := rfl
@[simp] theorem State.withFlags_health (s : State) (f : AlertSet) : (s.withFlags f).health = s.health := rfl
@[simp] theorem State.withFlags_time (s : State) (f : AlertSet) : (s.withFlags f).time = s.time := rfl
@[simp] theorem State.withFlags_queue (s : State) (f : AlertSet) : (s.withFlags f).queue = s.queue := rfl
@[simp] theorem State.withFlags_alerts (s : State) (f : AlertSet) :
    (s.withFlags f).alerts = { s.alerts with flags := f, line := alertLevel f s.alerts.enables } := rfl
@[simp] theorem State.withFlags_link (s : State) (f : AlertSet) : (s.withFlags f).link = s.link := rfl
@[simp] theorem State.withFlags_resetPin (s : State) (f : AlertSet) : (s.withFlags f).resetPin = s.resetPin := rfl
@[simp] theorem State.withFlags_draws (s : State) (f : AlertSet) : (s.withFlags f).draws = s.draws := rfl
@[simp] theorem State.withFlags_pending (s : State) (f : AlertSet) : (s.withFlags f).pending = s.pending := rfl
@[simp] theorem State.withFlags_slot (s : State) (f : AlertSet) (j : SlotIx) : (s.withFlags f).slot j = s.slot j := rfl
@[simp] theorem State.withFlags_port (s : State) (f : AlertSet) (q : Master) : (s.withFlags f).port q = s.port q := rfl
@[simp] theorem State.withFlags_conf (s : State) (f : AlertSet) (n : Master) : (s.withFlags f).conf n = s.conf n := rfl
@[simp] theorem State.withFlags_counter (s : State) (f : AlertSet) (n : Master) :
    (s.withFlags f).counter n = s.counter n := rfl
@[simp] theorem State.withFlags_window (s : State) (f : AlertSet) (j : WindowIx) :
    (s.withFlags f).window j = s.window j := rfl

/-! ### withEnables -/

@[simp] theorem State.withEnables_slots (s : State) (e : AlertSet) : (s.withEnables e).slots = s.slots := rfl
@[simp] theorem State.withEnables_counters (s : State) (e : AlertSet) : (s.withEnables e).counters = s.counters := rfl
@[simp] theorem State.withEnables_ports (s : State) (e : AlertSet) : (s.withEnables e).ports = s.ports := rfl
@[simp] theorem State.withEnables_freeWords (s : State) (e : AlertSet) : (s.withEnables e).freeWords = s.freeWords := rfl
@[simp] theorem State.withEnables_waitList (s : State) (e : AlertSet) : (s.withEnables e).waitList = s.waitList := rfl
@[simp] theorem State.withEnables_windows (s : State) (e : AlertSet) : (s.withEnables e).windows = s.windows := rfl
@[simp] theorem State.withEnables_mode (s : State) (e : AlertSet) : (s.withEnables e).mode = s.mode := rfl
@[simp] theorem State.withEnables_fill (s : State) (e : AlertSet) : (s.withEnables e).fill = s.fill := rfl
@[simp] theorem State.withEnables_masters (s : State) (e : AlertSet) : (s.withEnables e).masters = s.masters := rfl
@[simp] theorem State.withEnables_pointer (s : State) (e : AlertSet) : (s.withEnables e).pointer = s.pointer := rfl
@[simp] theorem State.withEnables_deferral (s : State) (e : AlertSet) : (s.withEnables e).deferral = s.deferral := rfl
@[simp] theorem State.withEnables_mem (s : State) (e : AlertSet) : (s.withEnables e).mem = s.mem := rfl
@[simp] theorem State.withEnables_health (s : State) (e : AlertSet) : (s.withEnables e).health = s.health := rfl
@[simp] theorem State.withEnables_time (s : State) (e : AlertSet) : (s.withEnables e).time = s.time := rfl
@[simp] theorem State.withEnables_queue (s : State) (e : AlertSet) : (s.withEnables e).queue = s.queue := rfl
@[simp] theorem State.withEnables_alerts (s : State) (e : AlertSet) :
    (s.withEnables e).alerts = { s.alerts with enables := e, line := alertLevel s.alerts.flags e } := rfl
@[simp] theorem State.withEnables_link (s : State) (e : AlertSet) : (s.withEnables e).link = s.link := rfl
@[simp] theorem State.withEnables_resetPin (s : State) (e : AlertSet) : (s.withEnables e).resetPin = s.resetPin := rfl
@[simp] theorem State.withEnables_draws (s : State) (e : AlertSet) : (s.withEnables e).draws = s.draws := rfl
@[simp] theorem State.withEnables_pending (s : State) (e : AlertSet) : (s.withEnables e).pending = s.pending := rfl
@[simp] theorem State.withEnables_slot (s : State) (e : AlertSet) (j : SlotIx) : (s.withEnables e).slot j = s.slot j := rfl
@[simp] theorem State.withEnables_port (s : State) (e : AlertSet) (q : Master) : (s.withEnables e).port q = s.port q := rfl
@[simp] theorem State.withEnables_conf (s : State) (e : AlertSet) (n : Master) : (s.withEnables e).conf n = s.conf n := rfl
@[simp] theorem State.withEnables_counter (s : State) (e : AlertSet) (n : Master) :
    (s.withEnables e).counter n = s.counter n := rfl
@[simp] theorem State.withEnables_window (s : State) (e : AlertSet) (j : WindowIx) :
    (s.withEnables e).window j = s.window j := rfl

/-! ### setSclk -/

@[simp] theorem State.setSclk_slots (s : State) (b : Bool) : (s.setSclk b).slots = s.slots := rfl
@[simp] theorem State.setSclk_counters (s : State) (b : Bool) : (s.setSclk b).counters = s.counters := rfl
@[simp] theorem State.setSclk_ports (s : State) (b : Bool) : (s.setSclk b).ports = s.ports := rfl
@[simp] theorem State.setSclk_freeWords (s : State) (b : Bool) : (s.setSclk b).freeWords = s.freeWords := rfl
@[simp] theorem State.setSclk_waitList (s : State) (b : Bool) : (s.setSclk b).waitList = s.waitList := rfl
@[simp] theorem State.setSclk_windows (s : State) (b : Bool) : (s.setSclk b).windows = s.windows := rfl
@[simp] theorem State.setSclk_mode (s : State) (b : Bool) : (s.setSclk b).mode = s.mode := rfl
@[simp] theorem State.setSclk_fill (s : State) (b : Bool) : (s.setSclk b).fill = s.fill := rfl
@[simp] theorem State.setSclk_masters (s : State) (b : Bool) : (s.setSclk b).masters = s.masters := rfl
@[simp] theorem State.setSclk_pointer (s : State) (b : Bool) : (s.setSclk b).pointer = s.pointer := rfl
@[simp] theorem State.setSclk_deferral (s : State) (b : Bool) : (s.setSclk b).deferral = s.deferral := rfl
@[simp] theorem State.setSclk_mem (s : State) (b : Bool) : (s.setSclk b).mem = s.mem := rfl
@[simp] theorem State.setSclk_health (s : State) (b : Bool) : (s.setSclk b).health = s.health := rfl
@[simp] theorem State.setSclk_time (s : State) (b : Bool) : (s.setSclk b).time = s.time := rfl
@[simp] theorem State.setSclk_queue (s : State) (b : Bool) : (s.setSclk b).queue = s.queue := rfl
@[simp] theorem State.setSclk_alerts (s : State) (b : Bool) : (s.setSclk b).alerts = s.alerts := rfl
@[simp] theorem State.setSclk_link (s : State) (b : Bool) : (s.setSclk b).link = { s.link with sclk := b } := rfl
@[simp] theorem State.setSclk_resetPin (s : State) (b : Bool) : (s.setSclk b).resetPin = s.resetPin := rfl
@[simp] theorem State.setSclk_draws (s : State) (b : Bool) : (s.setSclk b).draws = s.draws := rfl
@[simp] theorem State.setSclk_pending (s : State) (b : Bool) : (s.setSclk b).pending = s.pending := rfl
@[simp] theorem State.setSclk_slot (s : State) (b : Bool) (j : SlotIx) : (s.setSclk b).slot j = s.slot j := rfl
@[simp] theorem State.setSclk_port (s : State) (b : Bool) (q : Master) : (s.setSclk b).port q = s.port q := rfl
@[simp] theorem State.setSclk_conf (s : State) (b : Bool) (n : Master) : (s.setSclk b).conf n = s.conf n := rfl
@[simp] theorem State.setSclk_counter (s : State) (b : Bool) (n : Master) : (s.setSclk b).counter n = s.counter n := rfl
@[simp] theorem State.setSclk_window (s : State) (b : Bool) (j : WindowIx) : (s.setSclk b).window j = s.window j := rfl

/-! ### deselect -/

@[simp] theorem State.deselect_slots (s : State) (g : List Byte) : (s.deselect g).slots = s.slots := rfl
@[simp] theorem State.deselect_counters (s : State) (g : List Byte) : (s.deselect g).counters = s.counters := rfl
@[simp] theorem State.deselect_ports (s : State) (g : List Byte) : (s.deselect g).ports = s.ports := rfl
@[simp] theorem State.deselect_freeWords (s : State) (g : List Byte) : (s.deselect g).freeWords = s.freeWords := rfl
@[simp] theorem State.deselect_waitList (s : State) (g : List Byte) : (s.deselect g).waitList = s.waitList := rfl
@[simp] theorem State.deselect_windows (s : State) (g : List Byte) : (s.deselect g).windows = s.windows := rfl
@[simp] theorem State.deselect_mode (s : State) (g : List Byte) : (s.deselect g).mode = s.mode := rfl
@[simp] theorem State.deselect_fill (s : State) (g : List Byte) : (s.deselect g).fill = s.fill := rfl
@[simp] theorem State.deselect_masters (s : State) (g : List Byte) : (s.deselect g).masters = s.masters := rfl
@[simp] theorem State.deselect_pointer (s : State) (g : List Byte) : (s.deselect g).pointer = s.pointer := rfl
@[simp] theorem State.deselect_deferral (s : State) (g : List Byte) : (s.deselect g).deferral = s.deferral := rfl
@[simp] theorem State.deselect_mem (s : State) (g : List Byte) : (s.deselect g).mem = s.mem := rfl
@[simp] theorem State.deselect_health (s : State) (g : List Byte) : (s.deselect g).health = s.health := rfl
@[simp] theorem State.deselect_time (s : State) (g : List Byte) : (s.deselect g).time = s.time := rfl
@[simp] theorem State.deselect_queue (s : State) (g : List Byte) : (s.deselect g).queue = s.queue := rfl
@[simp] theorem State.deselect_alerts (s : State) (g : List Byte) : (s.deselect g).alerts = s.alerts := rfl
@[simp] theorem State.deselect_link (s : State) (g : List Byte) :
    (s.deselect g).link = { s.link with ssel := false, sclk := false, frame := none, sdout := none, given := g } := rfl
@[simp] theorem State.deselect_resetPin (s : State) (g : List Byte) : (s.deselect g).resetPin = s.resetPin := rfl
@[simp] theorem State.deselect_draws (s : State) (g : List Byte) : (s.deselect g).draws = s.draws := rfl
@[simp] theorem State.deselect_pending (s : State) (g : List Byte) : (s.deselect g).pending = s.pending := rfl
@[simp] theorem State.deselect_slot (s : State) (g : List Byte) (j : SlotIx) : (s.deselect g).slot j = s.slot j := rfl
@[simp] theorem State.deselect_port (s : State) (g : List Byte) (q : Master) : (s.deselect g).port q = s.port q := rfl
@[simp] theorem State.deselect_conf (s : State) (g : List Byte) (n : Master) : (s.deselect g).conf n = s.conf n := rfl
@[simp] theorem State.deselect_counter (s : State) (g : List Byte) (n : Master) :
    (s.deselect g).counter n = s.counter n := rfl
@[simp] theorem State.deselect_window (s : State) (g : List Byte) (j : WindowIx) : (s.deselect g).window j = s.window j := rfl

/-! ### retain -/

@[simp] theorem State.retain_slots (s : State) (a : Answer) : (s.retain a).slots = s.slots := rfl
@[simp] theorem State.retain_counters (s : State) (a : Answer) : (s.retain a).counters = s.counters := rfl
@[simp] theorem State.retain_ports (s : State) (a : Answer) : (s.retain a).ports = s.ports := rfl
@[simp] theorem State.retain_freeWords (s : State) (a : Answer) : (s.retain a).freeWords = s.freeWords := rfl
@[simp] theorem State.retain_waitList (s : State) (a : Answer) : (s.retain a).waitList = s.waitList := rfl
@[simp] theorem State.retain_windows (s : State) (a : Answer) : (s.retain a).windows = s.windows := rfl
@[simp] theorem State.retain_mode (s : State) (a : Answer) : (s.retain a).mode = s.mode := rfl
@[simp] theorem State.retain_fill (s : State) (a : Answer) : (s.retain a).fill = s.fill := rfl
@[simp] theorem State.retain_masters (s : State) (a : Answer) : (s.retain a).masters = s.masters := rfl
@[simp] theorem State.retain_pointer (s : State) (a : Answer) : (s.retain a).pointer = s.pointer := rfl
@[simp] theorem State.retain_deferral (s : State) (a : Answer) : (s.retain a).deferral = s.deferral := rfl
@[simp] theorem State.retain_mem (s : State) (a : Answer) : (s.retain a).mem = s.mem := rfl
@[simp] theorem State.retain_health (s : State) (a : Answer) : (s.retain a).health = s.health := rfl
@[simp] theorem State.retain_time (s : State) (a : Answer) : (s.retain a).time = s.time := rfl
@[simp] theorem State.retain_queue (s : State) (a : Answer) : (s.retain a).queue = s.queue := rfl
@[simp] theorem State.retain_alerts (s : State) (a : Answer) : (s.retain a).alerts = s.alerts := rfl
@[simp] theorem State.retain_link (s : State) (a : Answer) : (s.retain a).link = { s.link with retained := some a } := rfl
@[simp] theorem State.retain_resetPin (s : State) (a : Answer) : (s.retain a).resetPin = s.resetPin := rfl
@[simp] theorem State.retain_draws (s : State) (a : Answer) : (s.retain a).draws = s.draws := rfl
@[simp] theorem State.retain_pending (s : State) (a : Answer) : (s.retain a).pending = s.pending := rfl
@[simp] theorem State.retain_slot (s : State) (a : Answer) (j : SlotIx) : (s.retain a).slot j = s.slot j := rfl
@[simp] theorem State.retain_port (s : State) (a : Answer) (q : Master) : (s.retain a).port q = s.port q := rfl
@[simp] theorem State.retain_conf (s : State) (a : Answer) (n : Master) : (s.retain a).conf n = s.conf n := rfl
@[simp] theorem State.retain_counter (s : State) (a : Answer) (n : Master) : (s.retain a).counter n = s.counter n := rfl
@[simp] theorem State.retain_window (s : State) (a : Answer) (j : WindowIx) : (s.retain a).window j = s.window j := rfl

/-! ### raiseQueue -/

@[simp] theorem State.raiseQueue_slots (s : State) : (s.raiseQueue).slots = s.slots := rfl
@[simp] theorem State.raiseQueue_counters (s : State) : (s.raiseQueue).counters = s.counters := rfl
@[simp] theorem State.raiseQueue_ports (s : State) : (s.raiseQueue).ports = s.ports := rfl
@[simp] theorem State.raiseQueue_freeWords (s : State) : (s.raiseQueue).freeWords = s.freeWords := rfl
@[simp] theorem State.raiseQueue_waitList (s : State) : (s.raiseQueue).waitList = s.waitList := rfl
@[simp] theorem State.raiseQueue_windows (s : State) : (s.raiseQueue).windows = s.windows := rfl
@[simp] theorem State.raiseQueue_mode (s : State) : (s.raiseQueue).mode = s.mode := rfl
@[simp] theorem State.raiseQueue_fill (s : State) : (s.raiseQueue).fill = s.fill := rfl
@[simp] theorem State.raiseQueue_masters (s : State) : (s.raiseQueue).masters = s.masters := rfl
@[simp] theorem State.raiseQueue_pointer (s : State) : (s.raiseQueue).pointer = s.pointer := rfl
@[simp] theorem State.raiseQueue_deferral (s : State) : (s.raiseQueue).deferral = s.deferral := rfl
@[simp] theorem State.raiseQueue_mem (s : State) : (s.raiseQueue).mem = s.mem := rfl
@[simp] theorem State.raiseQueue_health (s : State) : (s.raiseQueue).health = s.health := rfl
@[simp] theorem State.raiseQueue_time (s : State) : (s.raiseQueue).time = s.time := rfl
@[simp] theorem State.raiseQueue_queue (s : State) : (s.raiseQueue).queue = s.queue := rfl
@[simp] theorem State.raiseQueue_alerts (s : State) :
    (s.raiseQueue).alerts = (s.withFlags { s.alerts.flags with queue := true }).alerts := rfl
@[simp] theorem State.raiseQueue_link (s : State) : (s.raiseQueue).link = s.link := rfl
@[simp] theorem State.raiseQueue_resetPin (s : State) : (s.raiseQueue).resetPin = s.resetPin := rfl
@[simp] theorem State.raiseQueue_draws (s : State) : (s.raiseQueue).draws = s.draws := rfl
@[simp] theorem State.raiseQueue_pending (s : State) : (s.raiseQueue).pending = s.pending := rfl
@[simp] theorem State.raiseQueue_slot (s : State) (j : SlotIx) : (s.raiseQueue).slot j = s.slot j := rfl
@[simp] theorem State.raiseQueue_port (s : State) (q : Master) : (s.raiseQueue).port q = s.port q := rfl
@[simp] theorem State.raiseQueue_conf (s : State) (n : Master) : (s.raiseQueue).conf n = s.conf n := rfl
@[simp] theorem State.raiseQueue_counter (s : State) (n : Master) : (s.raiseQueue).counter n = s.counter n := rfl
@[simp] theorem State.raiseQueue_window (s : State) (j : WindowIx) : (s.raiseQueue).window j = s.window j := rfl

/-! ### raiseStanding -/

@[simp] theorem State.raiseStanding_slots (s : State) : (s.raiseStanding).slots = s.slots := rfl
@[simp] theorem State.raiseStanding_counters (s : State) : (s.raiseStanding).counters = s.counters := rfl
@[simp] theorem State.raiseStanding_ports (s : State) : (s.raiseStanding).ports = s.ports := rfl
@[simp] theorem State.raiseStanding_freeWords (s : State) : (s.raiseStanding).freeWords = s.freeWords := rfl
@[simp] theorem State.raiseStanding_waitList (s : State) : (s.raiseStanding).waitList = s.waitList := rfl
@[simp] theorem State.raiseStanding_windows (s : State) : (s.raiseStanding).windows = s.windows := rfl
@[simp] theorem State.raiseStanding_mode (s : State) : (s.raiseStanding).mode = s.mode := rfl
@[simp] theorem State.raiseStanding_fill (s : State) : (s.raiseStanding).fill = s.fill := rfl
@[simp] theorem State.raiseStanding_masters (s : State) : (s.raiseStanding).masters = s.masters := rfl
@[simp] theorem State.raiseStanding_pointer (s : State) : (s.raiseStanding).pointer = s.pointer := rfl
@[simp] theorem State.raiseStanding_deferral (s : State) : (s.raiseStanding).deferral = s.deferral := rfl
@[simp] theorem State.raiseStanding_mem (s : State) : (s.raiseStanding).mem = s.mem := rfl
@[simp] theorem State.raiseStanding_health (s : State) : (s.raiseStanding).health = s.health := rfl
@[simp] theorem State.raiseStanding_time (s : State) : (s.raiseStanding).time = s.time := rfl
@[simp] theorem State.raiseStanding_queue (s : State) : (s.raiseStanding).queue = s.queue := rfl
@[simp] theorem State.raiseStanding_alerts (s : State) :
    (s.raiseStanding).alerts = (s.withFlags { s.alerts.flags with standing := true }).alerts := rfl
@[simp] theorem State.raiseStanding_link (s : State) : (s.raiseStanding).link = s.link := rfl
@[simp] theorem State.raiseStanding_resetPin (s : State) : (s.raiseStanding).resetPin = s.resetPin := rfl
@[simp] theorem State.raiseStanding_draws (s : State) : (s.raiseStanding).draws = s.draws := rfl
@[simp] theorem State.raiseStanding_pending (s : State) : (s.raiseStanding).pending = s.pending := rfl
@[simp] theorem State.raiseStanding_slot (s : State) (j : SlotIx) : (s.raiseStanding).slot j = s.slot j := rfl
@[simp] theorem State.raiseStanding_port (s : State) (q : Master) : (s.raiseStanding).port q = s.port q := rfl
@[simp] theorem State.raiseStanding_conf (s : State) (n : Master) : (s.raiseStanding).conf n = s.conf n := rfl
@[simp] theorem State.raiseStanding_counter (s : State) (n : Master) : (s.raiseStanding).counter n = s.counter n := rfl
@[simp] theorem State.raiseStanding_window (s : State) (j : WindowIx) : (s.raiseStanding).window j = s.window j := rfl

/-! ### raiseRecovery -/

@[simp] theorem State.raiseRecovery_slots (s : State) : (s.raiseRecovery).slots = s.slots := rfl
@[simp] theorem State.raiseRecovery_counters (s : State) : (s.raiseRecovery).counters = s.counters := rfl
@[simp] theorem State.raiseRecovery_ports (s : State) : (s.raiseRecovery).ports = s.ports := rfl
@[simp] theorem State.raiseRecovery_freeWords (s : State) : (s.raiseRecovery).freeWords = s.freeWords := rfl
@[simp] theorem State.raiseRecovery_waitList (s : State) : (s.raiseRecovery).waitList = s.waitList := rfl
@[simp] theorem State.raiseRecovery_windows (s : State) : (s.raiseRecovery).windows = s.windows := rfl
@[simp] theorem State.raiseRecovery_mode (s : State) : (s.raiseRecovery).mode = s.mode := rfl
@[simp] theorem State.raiseRecovery_fill (s : State) : (s.raiseRecovery).fill = s.fill := rfl
@[simp] theorem State.raiseRecovery_masters (s : State) : (s.raiseRecovery).masters = s.masters := rfl
@[simp] theorem State.raiseRecovery_pointer (s : State) : (s.raiseRecovery).pointer = s.pointer := rfl
@[simp] theorem State.raiseRecovery_deferral (s : State) : (s.raiseRecovery).deferral = s.deferral := rfl
@[simp] theorem State.raiseRecovery_mem (s : State) : (s.raiseRecovery).mem = s.mem := rfl
@[simp] theorem State.raiseRecovery_health (s : State) : (s.raiseRecovery).health = s.health := rfl
@[simp] theorem State.raiseRecovery_time (s : State) : (s.raiseRecovery).time = s.time := rfl
@[simp] theorem State.raiseRecovery_queue (s : State) : (s.raiseRecovery).queue = s.queue := rfl
@[simp] theorem State.raiseRecovery_alerts (s : State) :
    (s.raiseRecovery).alerts = (s.withFlags { s.alerts.flags with recovery := true }).alerts := rfl
@[simp] theorem State.raiseRecovery_link (s : State) : (s.raiseRecovery).link = s.link := rfl
@[simp] theorem State.raiseRecovery_resetPin (s : State) : (s.raiseRecovery).resetPin = s.resetPin := rfl
@[simp] theorem State.raiseRecovery_draws (s : State) : (s.raiseRecovery).draws = s.draws := rfl
@[simp] theorem State.raiseRecovery_pending (s : State) : (s.raiseRecovery).pending = s.pending := rfl
@[simp] theorem State.raiseRecovery_slot (s : State) (j : SlotIx) : (s.raiseRecovery).slot j = s.slot j := rfl
@[simp] theorem State.raiseRecovery_port (s : State) (q : Master) : (s.raiseRecovery).port q = s.port q := rfl
@[simp] theorem State.raiseRecovery_conf (s : State) (n : Master) : (s.raiseRecovery).conf n = s.conf n := rfl
@[simp] theorem State.raiseRecovery_counter (s : State) (n : Master) : (s.raiseRecovery).counter n = s.counter n := rfl
@[simp] theorem State.raiseRecovery_window (s : State) (j : WindowIx) : (s.raiseRecovery).window j = s.window j := rfl

/-! ### raiseMemory -/

@[simp] theorem State.raiseMemory_slots (s : State) : (s.raiseMemory).slots = s.slots := rfl
@[simp] theorem State.raiseMemory_counters (s : State) : (s.raiseMemory).counters = s.counters := rfl
@[simp] theorem State.raiseMemory_ports (s : State) : (s.raiseMemory).ports = s.ports := rfl
@[simp] theorem State.raiseMemory_freeWords (s : State) : (s.raiseMemory).freeWords = s.freeWords := rfl
@[simp] theorem State.raiseMemory_waitList (s : State) : (s.raiseMemory).waitList = s.waitList := rfl
@[simp] theorem State.raiseMemory_windows (s : State) : (s.raiseMemory).windows = s.windows := rfl
@[simp] theorem State.raiseMemory_mode (s : State) : (s.raiseMemory).mode = s.mode := rfl
@[simp] theorem State.raiseMemory_fill (s : State) : (s.raiseMemory).fill = s.fill := rfl
@[simp] theorem State.raiseMemory_masters (s : State) : (s.raiseMemory).masters = s.masters := rfl
@[simp] theorem State.raiseMemory_pointer (s : State) : (s.raiseMemory).pointer = s.pointer := rfl
@[simp] theorem State.raiseMemory_deferral (s : State) : (s.raiseMemory).deferral = s.deferral := rfl
@[simp] theorem State.raiseMemory_mem (s : State) : (s.raiseMemory).mem = s.mem := rfl
@[simp] theorem State.raiseMemory_health (s : State) : (s.raiseMemory).health = s.health := rfl
@[simp] theorem State.raiseMemory_time (s : State) : (s.raiseMemory).time = s.time := rfl
@[simp] theorem State.raiseMemory_queue (s : State) : (s.raiseMemory).queue = s.queue := rfl
@[simp] theorem State.raiseMemory_alerts (s : State) :
    (s.raiseMemory).alerts = (s.withFlags { s.alerts.flags with memory := true }).alerts := rfl
@[simp] theorem State.raiseMemory_link (s : State) : (s.raiseMemory).link = s.link := rfl
@[simp] theorem State.raiseMemory_resetPin (s : State) : (s.raiseMemory).resetPin = s.resetPin := rfl
@[simp] theorem State.raiseMemory_draws (s : State) : (s.raiseMemory).draws = s.draws := rfl
@[simp] theorem State.raiseMemory_pending (s : State) : (s.raiseMemory).pending = s.pending := rfl
@[simp] theorem State.raiseMemory_slot (s : State) (j : SlotIx) : (s.raiseMemory).slot j = s.slot j := rfl
@[simp] theorem State.raiseMemory_port (s : State) (q : Master) : (s.raiseMemory).port q = s.port q := rfl
@[simp] theorem State.raiseMemory_conf (s : State) (n : Master) : (s.raiseMemory).conf n = s.conf n := rfl
@[simp] theorem State.raiseMemory_counter (s : State) (n : Master) : (s.raiseMemory).counter n = s.counter n := rfl
@[simp] theorem State.raiseMemory_window (s : State) (j : WindowIx) : (s.raiseMemory).window j = s.window j := rfl

/-! ### raiseLoss -/

@[simp] theorem State.raiseLoss_slots (s : State) : (s.raiseLoss).slots = s.slots := rfl
@[simp] theorem State.raiseLoss_counters (s : State) : (s.raiseLoss).counters = s.counters := rfl
@[simp] theorem State.raiseLoss_ports (s : State) : (s.raiseLoss).ports = s.ports := rfl
@[simp] theorem State.raiseLoss_freeWords (s : State) : (s.raiseLoss).freeWords = s.freeWords := rfl
@[simp] theorem State.raiseLoss_waitList (s : State) : (s.raiseLoss).waitList = s.waitList := rfl
@[simp] theorem State.raiseLoss_windows (s : State) : (s.raiseLoss).windows = s.windows := rfl
@[simp] theorem State.raiseLoss_mode (s : State) : (s.raiseLoss).mode = s.mode := rfl
@[simp] theorem State.raiseLoss_fill (s : State) : (s.raiseLoss).fill = s.fill := rfl
@[simp] theorem State.raiseLoss_masters (s : State) : (s.raiseLoss).masters = s.masters := rfl
@[simp] theorem State.raiseLoss_pointer (s : State) : (s.raiseLoss).pointer = s.pointer := rfl
@[simp] theorem State.raiseLoss_deferral (s : State) : (s.raiseLoss).deferral = s.deferral := rfl
@[simp] theorem State.raiseLoss_mem (s : State) : (s.raiseLoss).mem = s.mem := rfl
@[simp] theorem State.raiseLoss_health (s : State) : (s.raiseLoss).health = s.health := rfl
@[simp] theorem State.raiseLoss_time (s : State) : (s.raiseLoss).time = s.time := rfl
@[simp] theorem State.raiseLoss_queue (s : State) : (s.raiseLoss).queue = s.queue := rfl
@[simp] theorem State.raiseLoss_alerts (s : State) :
    (s.raiseLoss).alerts = (s.withFlags { s.alerts.flags with loss := true }).alerts := rfl
@[simp] theorem State.raiseLoss_link (s : State) : (s.raiseLoss).link = s.link := rfl
@[simp] theorem State.raiseLoss_resetPin (s : State) : (s.raiseLoss).resetPin = s.resetPin := rfl
@[simp] theorem State.raiseLoss_draws (s : State) : (s.raiseLoss).draws = s.draws := rfl
@[simp] theorem State.raiseLoss_pending (s : State) : (s.raiseLoss).pending = s.pending := rfl
@[simp] theorem State.raiseLoss_slot (s : State) (j : SlotIx) : (s.raiseLoss).slot j = s.slot j := rfl
@[simp] theorem State.raiseLoss_port (s : State) (q : Master) : (s.raiseLoss).port q = s.port q := rfl
@[simp] theorem State.raiseLoss_conf (s : State) (n : Master) : (s.raiseLoss).conf n = s.conf n := rfl
@[simp] theorem State.raiseLoss_counter (s : State) (n : Master) : (s.raiseLoss).counter n = s.counter n := rfl
@[simp] theorem State.raiseLoss_window (s : State) (j : WindowIx) : (s.raiseLoss).window j = s.window j := rfl

/-! ### raiseHeld -/

@[simp] theorem State.raiseHeld_slots (s : State) : (s.raiseHeld).slots = s.slots := rfl
@[simp] theorem State.raiseHeld_counters (s : State) : (s.raiseHeld).counters = s.counters := rfl
@[simp] theorem State.raiseHeld_ports (s : State) : (s.raiseHeld).ports = s.ports := rfl
@[simp] theorem State.raiseHeld_freeWords (s : State) : (s.raiseHeld).freeWords = s.freeWords := rfl
@[simp] theorem State.raiseHeld_waitList (s : State) : (s.raiseHeld).waitList = s.waitList := rfl
@[simp] theorem State.raiseHeld_windows (s : State) : (s.raiseHeld).windows = s.windows := rfl
@[simp] theorem State.raiseHeld_mode (s : State) : (s.raiseHeld).mode = s.mode := rfl
@[simp] theorem State.raiseHeld_fill (s : State) : (s.raiseHeld).fill = s.fill := rfl
@[simp] theorem State.raiseHeld_masters (s : State) : (s.raiseHeld).masters = s.masters := rfl
@[simp] theorem State.raiseHeld_pointer (s : State) : (s.raiseHeld).pointer = s.pointer := rfl
@[simp] theorem State.raiseHeld_deferral (s : State) : (s.raiseHeld).deferral = s.deferral := rfl
@[simp] theorem State.raiseHeld_mem (s : State) : (s.raiseHeld).mem = s.mem := rfl
@[simp] theorem State.raiseHeld_health (s : State) : (s.raiseHeld).health = s.health := rfl
@[simp] theorem State.raiseHeld_time (s : State) : (s.raiseHeld).time = s.time := rfl
@[simp] theorem State.raiseHeld_queue (s : State) : (s.raiseHeld).queue = s.queue := rfl
@[simp] theorem State.raiseHeld_alerts (s : State) :
    (s.raiseHeld).alerts = (s.withFlags { s.alerts.flags with held := true }).alerts := rfl
@[simp] theorem State.raiseHeld_link (s : State) : (s.raiseHeld).link = s.link := rfl
@[simp] theorem State.raiseHeld_resetPin (s : State) : (s.raiseHeld).resetPin = s.resetPin := rfl
@[simp] theorem State.raiseHeld_draws (s : State) : (s.raiseHeld).draws = s.draws := rfl
@[simp] theorem State.raiseHeld_pending (s : State) : (s.raiseHeld).pending = s.pending := rfl
@[simp] theorem State.raiseHeld_slot (s : State) (j : SlotIx) : (s.raiseHeld).slot j = s.slot j := rfl
@[simp] theorem State.raiseHeld_port (s : State) (q : Master) : (s.raiseHeld).port q = s.port q := rfl
@[simp] theorem State.raiseHeld_conf (s : State) (n : Master) : (s.raiseHeld).conf n = s.conf n := rfl
@[simp] theorem State.raiseHeld_counter (s : State) (n : Master) : (s.raiseHeld).counter n = s.counter n := rfl
@[simp] theorem State.raiseHeld_window (s : State) (j : WindowIx) : (s.raiseHeld).window j = s.window j := rfl

/-! ### lowerQueue -/

@[simp] theorem State.lowerQueue_slots (s : State) : (s.lowerQueue).slots = s.slots := rfl
@[simp] theorem State.lowerQueue_counters (s : State) : (s.lowerQueue).counters = s.counters := rfl
@[simp] theorem State.lowerQueue_ports (s : State) : (s.lowerQueue).ports = s.ports := rfl
@[simp] theorem State.lowerQueue_freeWords (s : State) : (s.lowerQueue).freeWords = s.freeWords := rfl
@[simp] theorem State.lowerQueue_waitList (s : State) : (s.lowerQueue).waitList = s.waitList := rfl
@[simp] theorem State.lowerQueue_windows (s : State) : (s.lowerQueue).windows = s.windows := rfl
@[simp] theorem State.lowerQueue_mode (s : State) : (s.lowerQueue).mode = s.mode := rfl
@[simp] theorem State.lowerQueue_fill (s : State) : (s.lowerQueue).fill = s.fill := rfl
@[simp] theorem State.lowerQueue_masters (s : State) : (s.lowerQueue).masters = s.masters := rfl
@[simp] theorem State.lowerQueue_pointer (s : State) : (s.lowerQueue).pointer = s.pointer := rfl
@[simp] theorem State.lowerQueue_deferral (s : State) : (s.lowerQueue).deferral = s.deferral := rfl
@[simp] theorem State.lowerQueue_mem (s : State) : (s.lowerQueue).mem = s.mem := rfl
@[simp] theorem State.lowerQueue_health (s : State) : (s.lowerQueue).health = s.health := rfl
@[simp] theorem State.lowerQueue_time (s : State) : (s.lowerQueue).time = s.time := rfl
@[simp] theorem State.lowerQueue_queue (s : State) : (s.lowerQueue).queue = s.queue := rfl
@[simp] theorem State.lowerQueue_alerts (s : State) :
    (s.lowerQueue).alerts = (s.withFlags { s.alerts.flags with queue := false }).alerts := rfl
@[simp] theorem State.lowerQueue_link (s : State) : (s.lowerQueue).link = s.link := rfl
@[simp] theorem State.lowerQueue_resetPin (s : State) : (s.lowerQueue).resetPin = s.resetPin := rfl
@[simp] theorem State.lowerQueue_draws (s : State) : (s.lowerQueue).draws = s.draws := rfl
@[simp] theorem State.lowerQueue_pending (s : State) : (s.lowerQueue).pending = s.pending := rfl
@[simp] theorem State.lowerQueue_slot (s : State) (j : SlotIx) : (s.lowerQueue).slot j = s.slot j := rfl
@[simp] theorem State.lowerQueue_port (s : State) (q : Master) : (s.lowerQueue).port q = s.port q := rfl
@[simp] theorem State.lowerQueue_conf (s : State) (n : Master) : (s.lowerQueue).conf n = s.conf n := rfl
@[simp] theorem State.lowerQueue_counter (s : State) (n : Master) : (s.lowerQueue).counter n = s.counter n := rfl
@[simp] theorem State.lowerQueue_window (s : State) (j : WindowIx) : (s.lowerQueue).window j = s.window j := rfl

/-! ### Reading a bank after a write of it -/

@[simp] theorem State.setSlot_slot_self (s : State) (k : SlotIx) (x : Option Slot) : (s.setSlot k x).slot k = x := by
  simp [State.setSlot, State.slot]

theorem State.setSlot_slot_ne (s : State) (k : SlotIx) (x : Option Slot) {j : SlotIx} (h : j ≠ k) :
    (s.setSlot k x).slot j = s.slot j := by
  have : k.val ≠ j.val := fun e => h (Fin.ext e.symm)
  simp [State.setSlot, State.slot, this]

@[simp] theorem State.setPort_port_self (s : State) (p : Master) (x : Port) : (s.setPort p x).port p = x := by
  simp [State.setPort, State.port]

theorem State.setPort_port_ne (s : State) (p : Master) (x : Port) {q : Master} (h : q ≠ p) :
    (s.setPort p x).port q = s.port q := by
  have : p.val ≠ q.val := fun e => h (Fin.ext e.symm)
  simp [State.setPort, State.port, this]

@[simp] theorem State.setConf_conf_self (s : State) (m : Master) (c : Confinement) : (s.setConf m c).conf m = c := by
  simp [State.setConf, State.conf]

theorem State.setConf_conf_ne (s : State) (m : Master) (c : Confinement) {n : Master} (h : n ≠ m) :
    (s.setConf m c).conf n = s.conf n := by
  have : m.val ≠ n.val := fun e => h (Fin.ext e.symm)
  simp [State.setConf, State.conf, this]

@[simp] theorem State.setCounter_counter_self (s : State) (m : Master) (c : Serial) : (s.setCounter m c).counter m = c := by
  simp [State.setCounter, State.counter]

theorem State.setCounter_counter_ne (s : State) (m : Master) (c : Serial) {n : Master} (h : n ≠ m) :
    (s.setCounter m c).counter n = s.counter n := by
  have : m.val ≠ n.val := fun e => h (Fin.ext e.symm)
  simp [State.setCounter, State.counter, this]

@[simp] theorem State.setWindow_window_self (s : State) (i : WindowIx) (w : Window) : (s.setWindow i w).window i = w := by
  simp [State.setWindow, State.window]

theorem State.setWindow_window_ne (s : State) (i : WindowIx) (w : Window) {j : WindowIx} (h : j ≠ i) :
    (s.setWindow i w).window j = s.window j := by
  have : i.val ≠ j.val := fun e => h (Fin.ext e.symm)
  simp [State.setWindow, State.window, this]

/-! ### The banks are read through their fields alone -/

theorem State.slot_congr {s t : State} (h : t.slots = s.slots) (j : SlotIx) : t.slot j = s.slot j := by
  simp only [State.slot, h]

theorem State.port_congr {s t : State} (h : t.ports = s.ports) (q : Master) : t.port q = s.port q := by
  simp only [State.port, h]

theorem State.conf_congr {s t : State} (h : t.masters = s.masters) (n : Master) : t.conf n = s.conf n := by
  simp only [State.conf, h]

theorem State.counter_congr {s t : State} (h : t.counters = s.counters) (n : Master) : t.counter n = s.counter n := by
  simp only [State.counter, h]

theorem State.window_congr {s t : State} (h : t.windows = s.windows) (j : WindowIx) : t.window j = s.window j := by
  simp only [State.window, h]

/-! ### Every element of a bank replaced by its image -/

@[simp] theorem mapBank_getElem {α : Type} {n : Nat} (f : α → α) (v : Vector α n) (i : Nat) (h : i < n) :
    (mapBank f v)[i] = f v[i] := by
  simp [mapBank]

end Sys2Proof.Machine
end

