-- ==== Sys2Proof/Laws/Ops.lean ====
section
/-! SUPPORT. One lemma for each shared operation that says what it can do, for use in place of the operation's definition. -/

namespace Sys2Proof.Machine

/-! ### Slots and the data buffer -/

/-- R6: freeing a live slot. -/
theorem State.freeSlot_live (s : State) (k : SlotIx) (x : Slot) (h : s.slot k = some x) :
    s.freeSlot k = { s.setSlot k none with freeWords := s.freeWords + x.reserved } := by
  simp [State.freeSlot, h]

/-- Freeing a slot that is FREE already changes nothing. -/
theorem State.freeSlot_free (s : State) (k : SlotIx) (h : s.slot k = none) : s.freeSlot k = s := by
  simp [State.freeSlot, h]

/-- R10: what becomes of each slot when the slots of a master are dropped. -/
@[simp] theorem State.dropSlots_slot (s : State) (m : Master) (k : SlotIx) :
    (s.dropSlots m).slot k = dropOne m (s.slot k) := by
  simp [State.dropSlots, State.slot]

/-- A dropped slot is freed. -/
theorem dropOne_dropped (m : Master) (x : Slot) (h : x.droppedWith m = true) : dropOne m (some x) = none := by
  simp [dropOne, h]

/-- A slot of another master, or an orphan, is not touched. -/
theorem dropOne_other (m : Master) (x : Slot) (h : x.ownedBy m = false) : dropOne m (some x) = some x := by
  simp [dropOne, h, Slot.droppedWith]

/-- The ISSUED slot of the master becomes an orphan. -/
theorem dropOne_issued (m : Master) (x : Slot) (h : x.ownedBy m = true) (hp : x.phase = .issued) :
    dropOne m (some x) = some { x with orphan := true } := by
  simp [dropOne, h, hp, Slot.droppedWith]

/-- A slot owned by a master, read off the table. -/
theorem State.owns_iff (s : State) (m : Master) (q : Slot → Bool) (k : SlotIx) :
    s.owns m q k = true ↔ ∃ x, s.slot k = some x ∧ x.master = m ∧ x.orphan = false ∧ q x = true := by
  unfold State.owns
  cases h : s.slot k with
  | none => simp
  | some x => simp [Slot.ownedBy, and_assoc]

/-- A master without live non-orphan slots owns none. -/
theorem State.held_eq_zero (s : State) (m : Master) :
    s.held m = 0 ↔ ∀ k x, s.slot k = some x → x.master = m → x.orphan = true := by
  have all : ∀ k : SlotIx, k ∈ allSlots := by decide
  simp only [State.held, List.countP_eq_zero, State.owns_iff]
  constructor
  · intro h k x hk hm
    have := h k (all k)
    simp only [not_exists, not_and] at this
    simpa using fun ho => this x hk hm ho
  · rintro h k - ⟨x, hk, hm, ho, -⟩
    simp [h k x hk hm] at ho

/-- The slots a master owns are its live slots that are no orphans. -/
theorem State.held_eq (s : State) (m : Master) :
    s.held m = allSlots.countP fun k => (s.slot k).any fun x => x.master == m && !x.orphan := by
  unfold State.held State.owns Slot.ownedBy
  congr 1
  funext k
  cases s.slot k <;> simp

/-- R3: one step of the search for the oldest slot keeps the older of the two. -/
theorem State.older_keeps (s : State) (m : Master) (b : Option SlotIx) (k : SlotIx) :
    ∃ c, s.older m b k = some c ∧ (b = some c ∨ c = k) ∧ s.age m k ≤ s.age m c ∧ ∀ j, b = some j → s.age m j ≤ s.age m c := by
  unfold State.older
  split
  · exact ⟨k, rfl, .inr rfl, Nat.le_refl _, by simp⟩
  · split
    · exact ⟨k, rfl, .inr rfl, Nat.le_refl _, by simp; omega⟩
    · exact ⟨_, rfl, .inl rfl, by omega, by simp⟩

/-- R3: the search for the oldest slot ends with a slot as old as any that it met. -/
theorem State.older_fold (s : State) (m : Master) (l : List SlotIx) (b : Option SlotIx) :
    (l.foldl (s.older m) b = none ↔ b = none ∧ l = []) ∧
      ∀ k, l.foldl (s.older m) b = some k →
        (b = some k ∨ k ∈ l) ∧ (∀ j ∈ l, s.age m j ≤ s.age m k) ∧ ∀ j, b = some j → s.age m j ≤ s.age m k := by
  induction l generalizing b with
  | nil => exact ⟨by simp, fun k h => ⟨.inl h, by simp, fun j hj => by simp_all⟩⟩
  | cons a l ih =>
    obtain ⟨c, hc, hfrom, hle, hall⟩ := s.older_keeps m b a
    obtain ⟨e1, e2⟩ := ih (some c)
    simp only [List.foldl, hc]
    refine ⟨by simp [e1], fun k hk => ?_⟩
    obtain ⟨f1, f2, f3⟩ := e2 k hk
    have hck := f3 c rfl
    refine ⟨?_, fun j hj => ?_, fun j hj => Nat.le_trans (hall j hj) hck⟩
    · obtain h | h := f1
      · obtain rfl : c = k := by simpa using h
        exact hfrom.imp id fun h => by simp [h]
      · exact .inr (List.mem_cons_of_mem _ h)
    · obtain rfl | hj := List.mem_cons.mp hj
      · omega
      · exact f2 j hj

/-- R3: a master has no oldest slot of a kind exactly where it has no such slot. -/
theorem State.oldest_none (s : State) (m : Master) (q : Slot → Bool) :
    s.oldest m q = none ↔ ∀ k x, s.slot k = some x → x.master = m → x.orphan = false → q x = false := by
  have all : ∀ k : SlotIx, k ∈ allSlots := by decide
  unfold State.oldest
  simp only [(s.older_fold m _ none).1, true_and, List.filter_eq_nil_iff, State.owns_iff]
  constructor
  · intro h k x a b c
    by_contra hq
    exact h k (all k) ⟨x, a, b, c, by simpa using hq⟩
  · rintro h k - ⟨x, a, b, c, d⟩
    simp [h k x a b c] at d

/-- R3: the oldest slot of a master of a kind is one of them, and none of them is older. -/
theorem State.oldest_some (s : State) (m : Master) (q : Slot → Bool) (k : SlotIx) (h : s.oldest m q = some k) :
    ∃ x, s.slot k = some x ∧ x.master = m ∧ x.orphan = false ∧ q x = true ∧
      ∀ j y, s.slot j = some y → y.master = m → y.orphan = false → q y = true →
        (s.counter m - y.admission).toNat ≤ (s.counter m - x.admission).toNat := by
  have all : ∀ k : SlotIx, k ∈ allSlots := by decide
  obtain ⟨f1, f2, -⟩ := (s.older_fold m _ none).2 k h
  have hk : k ∈ allSlots.filter (s.owns m q) := by simpa using f1
  obtain ⟨x, a, b, c, d⟩ := (s.owns_iff m q k).mp (List.mem_filter.mp hk).2
  refine ⟨x, a, b, c, d, fun j y e1 e2 e3 e4 => ?_⟩
  have := f2 j (List.mem_filter.mpr ⟨all j, (s.owns_iff m q j).mpr ⟨y, e1, e2, e3, e4⟩⟩)
  simpa [State.age, a, e1] using this

/-- No slot is FREE exactly where there is no lowest FREE slot. -/
theorem State.lowestFree_none (s : State) : s.lowestFree = none ↔ ∀ k, s.slot k ≠ none := by
  have all : ∀ k : SlotIx, k ∈ allSlots := by decide
  simp [State.lowestFree, List.find?_eq_none, all]

/-- The ISSUED slot of the unit is a live slot in phase ISSUED. -/
theorem State.issued_some (s : State) (k : SlotIx) (x : Slot) (h : s.issued = some (k, x)) :
    s.slot k = some x ∧ x.phase = .issued := by
  unfold State.issued at h
  cases hi : s.issuedIx with
  | none => simp [hi] at h
  | some j =>
    simp only [hi, Option.map_eq_some_iff, Prod.mk.injEq] at h
    obtain ⟨y, hy, rfl, rfl⟩ := h
    have := List.find?_some hi
    simp only [hy, beq_iff_eq] at this
    exact ⟨hy, this⟩

/-! ### Ports, the response channel and the wait list -/

/-- The offer of the next item touches one port alone. -/
theorem State.offerNext_port (s : State) (p : Master) :
    ∃ item, s.offerNext p = s.setPort p { s.port p with offer := item } := ⟨_, rfl⟩

/-- R32: leaving the wait list. -/
theorem State.leaveWaitList_eq (s : State) (p : Master) :
    s.leaveWaitList p =
      { s.setConf p { s.conf p with waitListed := false } with waitList := s.waitList.filter (· != p) } := rfl

/-- R30: joining the wait list. -/
theorem State.joinWaitList_eq (s : State) (p : Master) :
    s.joinWaitList p = { s.setConf p { s.conf p with waitListed := true } with waitList := s.waitList ++ [p] } := rfl

/-- One joining: none where no port is to join, else that of a port that is. -/
theorem State.joinOne_cases (s : State) :
    (s.joinOne = s ∧ ∀ p, s.mustJoin p = false) ∨
      ∃ p n, s.mustJoin p = true ∧ s.joinOne = { s with draws := n }.joinWaitList p := by
  have all : ∀ m : Master, m ∈ allMasters := by decide
  unfold State.joinOne
  split
  · rename_i h
    refine .inl ⟨rfl, fun p => ?_⟩
    have := List.filter_eq_nil_iff.mp h p (all p)
    simpa using this
  · rename_i p h
    have hp : p ∈ allMasters.filter s.mustJoin := by simp [h]
    exact .inr ⟨p, s.draws, (List.mem_filter.mp hp).2, rfl⟩
  · rename_i p q l h
    refine .inr ⟨(p :: q :: l).getD (s.drawPlace (l.length + 2)) p, s.draws + 1, ?_, rfl⟩
    have hlt : s.drawPlace (l.length + 2) < (p :: q :: l).length := Nat.mod_lt _ (by simp)
    have hp : (p :: q :: l).getD (s.drawPlace (l.length + 2)) p ∈ allMasters.filter s.mustJoin := by
      rw [h, List.getD_eq_getElem _ _ hlt]
      exact List.getElem_mem hlt
    exact (List.mem_filter.mp hp).2

/-- What holds of a state, and is kept by drawing a free choice and by the event of each member of the list, holds after the
events of the list in whichever order. -/
theorem inFreeOrder_keeps (P : State → Prop) (act : State → Master → State) (n : Nat) (due : List Master) (s : State)
    (hs : P s) (hdraw : ∀ s d, P s → P { s with draws := d }) (hact : ∀ s, ∀ m ∈ due, P s → P (act s m)) :
    P (inFreeOrder act n due s) := by
  induction n generalizing due s with
  | zero => exact hs
  | succ n ih =>
    match due with
    | [] => exact hs
    | [m] => exact hact s m (by simp) hs
    | m :: m' :: due =>
      have hlt : s.drawPlace (m :: m' :: due).length < (m :: m' :: due).length := Nat.mod_lt _ (by simp)
      have hc : (m :: m' :: due).getD (s.drawPlace (m :: m' :: due).length) m ∈ m :: m' :: due := by
        rw [List.getD_eq_getElem _ _ hlt]
        exact List.getElem_mem hlt
      exact ih _ _ (hact _ _ hc (hdraw s _ hs)) fun s x hx => hact s x (List.mem_of_mem_erase hx)

/-- An act that neither reads nor writes the count of free values can be folded past a change of it. -/
theorem foldl_draws (act : State → Master → State)
    (h : ∀ s d m, act { s with draws := d } m = { act s m with draws := d }) (order : List Master) (s : State) (d : Nat) :
    order.foldl act { s with draws := d } = { order.foldl act s with draws := d } := by
  induction order generalizing s with
  | nil => rfl
  | cons m l ih => simp only [List.foldl]; rw [h, ih]

/-- Events taken in a free order, where none of them draws: each member's event is taken once, in some order, and with one member
nothing is drawn. -/
theorem inFreeOrder_order (act : State → Master → State)
    (h : ∀ s d m, act { s with draws := d } m = { act s m with draws := d }) (n : Nat) (due : List Master) (s : State)
    (hdup : due.Nodup) (hn : due.length ≤ n) :
    ∃ (order : List Master) (d : Nat), order.Nodup ∧ (∀ m, m ∈ order ↔ m ∈ due) ∧ (due.length ≤ 1 → d = s.draws) ∧
      inFreeOrder act n due s = { order.foldl act s with draws := d } := by
  have hd : ∀ s m, (act s m).draws = s.draws := fun s m => (congrArg State.draws (h s s.draws m) :)
  induction n generalizing due s with
  | zero =>
    obtain rfl : due = [] := by simpa using hn
    exact ⟨[], s.draws, by simp, by simp, by simp, rfl⟩
  | succ n ih =>
    match due, hdup, hn with
    | [], _, _ => exact ⟨[], s.draws, by simp, by simp, by simp, rfl⟩
    | [m], _, _ =>
      refine ⟨[m], s.draws, by simp, by simp, by simp, ?_⟩
      simp only [inFreeOrder, List.foldl]
      rw [← hd s m]
    | m :: m' :: due, hdup, hn =>
      have hlt : s.drawPlace (m :: m' :: due).length < (m :: m' :: due).length := Nat.mod_lt _ (by simp)
      simp only [inFreeOrder]
      generalize hc' : (m :: m' :: due).getD (s.drawPlace (m :: m' :: due).length) m = c
      have hc : c ∈ m :: m' :: due := by
        rw [← hc', List.getD_eq_getElem _ _ hlt]
        exact List.getElem_mem hlt
      obtain ⟨order, d, hnd, hmem, -, e⟩ := ih ((m :: m' :: due).erase c) (act { s with draws := s.draws + 1 } c) (hdup.erase c)
        (by rw [List.length_erase_of_mem hc]; simp at hn ⊢; omega)
      refine ⟨c :: order, d, List.nodup_cons.mpr ⟨fun hx => hdup.not_mem_erase ((hmem c).mp hx), hnd⟩, fun x => ?_, by simp, ?_⟩
      · by_cases hx : x = c
        · simp [hx, hc]
        · simp only [List.mem_cons (a := x) (b := c), hmem, hdup.mem_erase_iff, hx, false_or, ne_eq, not_false_eq_true, true_and]
      · rw [e, h, List.foldl, foldl_draws act h]

/-! ### Handing a record over -/

/-- R157: the outcomes of a hand-over. -/
theorem State.hand_cases (s : State) (b : RecordBody) :
    s.hand b = s ∨ s.hand b = s.store b ∨ s.hand b = s.lose := by
  unfold State.hand
  split
  · split
    · exact .inr (.inl rfl)
    · exact .inr (.inr rfl)
  · exact .inl rfl

/-- A hand-over touches the fault queue and the alert block alone. -/
theorem State.hand_frame (s : State) (b : RecordBody) : s.sameButRecords (s.hand b) := by
  obtain h | h | h := s.hand_cases b
  · rw [h]
  · rw [h]; unfold State.store; simp only; split <;> rfl
  · rw [h]; rfl

@[simp] theorem State.hand_slots (s : State) (b : RecordBody) : (s.hand b).slots = s.slots := by rw [s.hand_frame b]
@[simp] theorem State.hand_counters (s : State) (b : RecordBody) : (s.hand b).counters = s.counters := by rw [s.hand_frame b]
@[simp] theorem State.hand_ports (s : State) (b : RecordBody) : (s.hand b).ports = s.ports := by rw [s.hand_frame b]
@[simp] theorem State.hand_freeWords (s : State) (b : RecordBody) : (s.hand b).freeWords = s.freeWords := by rw [s.hand_frame b]
@[simp] theorem State.hand_waitList (s : State) (b : RecordBody) : (s.hand b).waitList = s.waitList := by rw [s.hand_frame b]
@[simp] theorem State.hand_windows (s : State) (b : RecordBody) : (s.hand b).windows = s.windows := by rw [s.hand_frame b]
@[simp] theorem State.hand_mode (s : State) (b : RecordBody) : (s.hand b).mode = s.mode := by rw [s.hand_frame b]
@[simp] theorem State.hand_fill (s : State) (b : RecordBody) : (s.hand b).fill = s.fill := by rw [s.hand_frame b]
@[simp] theorem State.hand_masters (s : State) (b : RecordBody) : (s.hand b).masters = s.masters := by rw [s.hand_frame b]
@[simp] theorem State.hand_pointer (s : State) (b : RecordBody) : (s.hand b).pointer = s.pointer := by rw [s.hand_frame b]
@[simp] theorem State.hand_deferral (s : State) (b : RecordBody) : (s.hand b).deferral = s.deferral := by rw [s.hand_frame b]
@[simp] theorem State.hand_mem (s : State) (b : RecordBody) : (s.hand b).mem = s.mem := by rw [s.hand_frame b]
@[simp] theorem State.hand_health (s : State) (b : RecordBody) : (s.hand b).health = s.health := by rw [s.hand_frame b]
@[simp] theorem State.hand_time (s : State) (b : RecordBody) : (s.hand b).time = s.time := by rw [s.hand_frame b]
@[simp] theorem State.hand_link (s : State) (b : RecordBody) : (s.hand b).link = s.link := by rw [s.hand_frame b]
@[simp] theorem State.hand_resetPin (s : State) (b : RecordBody) : (s.hand b).resetPin = s.resetPin := by rw [s.hand_frame b]
@[simp] theorem State.hand_draws (s : State) (b : RecordBody) : (s.hand b).draws = s.draws := by rw [s.hand_frame b]
@[simp] theorem State.hand_pending (s : State) (b : RecordBody) : (s.hand b).pending = s.pending := by rw [s.hand_frame b]
@[simp] theorem State.hand_slot (s : State) (b : RecordBody) (k : SlotIx) : (s.hand b).slot k = s.slot k :=
  State.slot_congr (s.hand_slots b) k
@[simp] theorem State.hand_port (s : State) (b : RecordBody) (p : Master) : (s.hand b).port p = s.port p :=
  State.port_congr (s.hand_ports b) p
@[simp] theorem State.hand_conf (s : State) (b : RecordBody) (m : Master) : (s.hand b).conf m = s.conf m :=
  State.conf_congr (s.hand_masters b) m
@[simp] theorem State.hand_counter (s : State) (b : RecordBody) (m : Master) : (s.hand b).counter m = s.counter m :=
  State.counter_congr (s.hand_counters b) m
@[simp] theorem State.hand_window (s : State) (b : RecordBody) (i : WindowIx) : (s.hand b).window i = s.window i :=
  State.window_congr (s.hand_windows b) i

/-- A hand-over reads the fault queue and the alert block alone: what it writes there is the same on any state that holds the
same queue and alerts. -/
theorem State.hand_reads (s t : State) (b : RecordBody) (hq : t.queue = s.queue) (ha : t.alerts = s.alerts) :
    t.hand b = { t with queue := (s.hand b).queue, alerts := (s.hand b).alerts } := by
  have key : t.hand b = { s.hand b with
      slots := t.slots, counters := t.counters, ports := t.ports, freeWords := t.freeWords, waitList := t.waitList
      windows := t.windows, mode := t.mode, fill := t.fill, masters := t.masters, pointer := t.pointer
      deferral := t.deferral, mem := t.mem, health := t.health, time := t.time, link := t.link, resetPin := t.resetPin
      draws := t.draws, pending := t.pending } := by
    obtain ⟨⟩ := t
    obtain ⟨⟩ := s
    subst hq ha
    simp only [State.hand, State.store]
    split
    · split
      · split <;> rfl
      · rfl
    · rfl
  rw [key]

/-- A hand-over neither reads nor writes the count of free values. -/
theorem State.hand_withDraws (s : State) (d : Nat) (b : RecordBody) :
    State.hand { s with draws := d } b = { s.hand b with draws := d } := by
  rw [State.hand_reads s { s with draws := d } b rfl rfl]
  conv => rhs; rw [s.hand_frame]

/-- R92: a recovery neither reads nor writes the count of free values. -/
theorem State.recover_draws (cause : StandingCause) (s : State) (d : Nat) (m : Master) :
    State.recover { s with draws := d } m cause = { s.recover m cause with draws := d } := by
  simp only [State.recover]
  exact congrArg State.raiseRecovery (State.hand_withDraws
    ((s.setConf m { s.conf m with score := 0, standing := .active, count := 0, deferral := 0 }).setPort m
      { s.port m with cut := false }) d _)

/-- R40: a port clear neither reads nor writes the count of free values. -/
theorem State.portClear_draws (s : State) (d : Nat) (p : Master) :
    State.portClear { s with draws := d } p = { s.portClear p with draws := d } := by
  simp only [State.portClear]
  exact State.hand_withDraws
    (((s.dropSlots p).leaveWaitList p).setPort p
      { ((s.dropSlots p).leaveWaitList p).port p with head := none, writeList := [], offer := none }) d _

/-! ### The memory port and the memory health block -/

/-- R137: what the failure of the memory does to each slot. -/
@[simp] theorem State.failQueued_slot (s : State) (k : SlotIx) : s.failQueued.slot k = failOne s.fill (s.slot k) := by
  simp [State.failQueued, State.slot]

/-- R121 step 1: the end of the ISSUED slot. -/
theorem State.endSlot_cases (s : State) (k : SlotIx) (x : Slot) (r : Result) (corrected : Bool) :
    (x.orphan = true ∧ s.endSlot k x r corrected = s.freeSlot k) ∨
      (x.orphan = false ∧ s.endSlot k x r corrected =
        s.setSlot k (some { x with phase := .ready, outcome := some r, corrected := corrected, timer := none })) := by
  cases h : x.orphan <;> simp [State.endSlot, h]

/-- R122: the port at the end of a completion event. -/
theorem State.leaveBusy_cases (s : State) :
    (s.health.standing = .failed ∧ s.leaveBusy = { s with mem := { MemPort.fresh with state := .failed } }) ∨
      (s.health.standing ≠ .failed ∧ s.mem.holdPending = true ∧
        s.leaveBusy = { s with mem := { MemPort.fresh with state := .held } }.raiseHeld) ∨
      (s.health.standing ≠ .failed ∧ s.mem.holdPending = false ∧ s.leaveBusy = { s with mem := MemPort.fresh }) := by
  unfold State.leaveBusy
  split
  · exact .inl ⟨‹_›, rfl⟩
  · cases h : s.mem.holdPending <;> simp [*]

/-- R116: a read beat kept, or discarded. -/
theorem State.storeBeat_cases (s : State) (k : SlotIx) (x : Slot) (w : Word) (status : BitVec 2) :
    (x.beats.val ≤ s.mem.received ∧ s.storeBeat k x w status = s) ∨
      (s.mem.received < x.beats.val ∧
        s.storeBeat k x w status =
          { s.setSlot k (some { x with words := x.words ++ [w], progress := s.mem.received + 1 }) with
            mem := { s.mem with
              received := s.mem.received + 1
              sawBad := s.mem.sawBad || badStatus status
              sawCorrected := s.mem.sawCorrected || status == 1#2 } }) := by
  unfold State.storeBeat
  split
  · exact .inr ⟨‹_›, rfl⟩
  · exact .inl ⟨by omega, rfl⟩

/-! ### The timebase -/

/-- R147: an edge of TCLK is counted, or gives the tick. -/
theorem State.tclkEdge_cases (s : State) :
    (s.time.count + 1 < 2 ^ s.time.divider ∧ s.tclkEdge = { s with time := { s.time with count := s.time.count + 1 } }) ∨
      (2 ^ s.time.divider ≤ s.time.count + 1 ∧ s.tclkEdge = s.giveTick none) := by
  unfold State.tclkEdge
  split
  · exact .inl ⟨‹_›, rfl⟩
  · exact .inr ⟨by omega, rfl⟩

/-- R89, R95: everything that the QUIET count of one master at a tick can do. -/
theorem State.countOne_cases (first : Option Master) (s : State) (m : Master) :
    (s.meetsCutoff m = true ∧ first ≠ some m ∧
        s.countOne first m =
          { s.setConf m (quietCount (s.drawPlace 2 == 0) (s.conf m)) with draws := s.draws + 1 }) ∨
      ((s.meetsCutoff m = false ∨ first = some m) ∧
        s.countOne first m = s.setConf m (quietCount ((s.port m).head.isNone || s.meetsCutoff m) (s.conf m))) := by
  unfold State.countOne
  cases h : s.meetsCutoff m <;> by_cases hf : first = some m <;> simp [hf]

/-- The count of one master touches its record and the count of free values alone. -/
theorem State.countOne_frame (first : Option Master) (s : State) (m : Master) :
    s.countOne first m = { s with masters := (s.countOne first m).masters, draws := (s.countOne first m).draws } := by
  obtain ⟨-, -, e⟩ | ⟨-, e⟩ := s.countOne_cases first m <;> rw [e] <;> rfl

/-- The count of one master leaves every other record. -/
theorem State.countOne_conf_ne (first : Option Master) (s : State) {m n : Master} (h : n ≠ m) :
    (s.countOne first m).conf n = s.conf n := by
  have ne : (s.setConf m (quietCount (s.drawPlace 2 == 0) (s.conf m))).conf n = s.conf n := s.setConf_conf_ne _ _ h
  obtain ⟨-, -, e⟩ | ⟨-, e⟩ := s.countOne_cases first m <;> rw [e]
  · exact ne
  · exact s.setConf_conf_ne _ _ h

/-- R95: whether a tick meets a CUTOFF event is read off the master's record, its port and the RESET input. -/
theorem State.meetsCutoff_congr {s t : State} (m : Master) (hc : t.conf m = s.conf m) (hp : t.ports = s.ports)
    (hr : t.resetPin = s.resetPin) : t.meetsCutoff m = s.meetsCutoff m := by
  simp only [State.meetsCutoff, State.cutoffDue, State.port_congr hp m, hc, hr]

/-- R89, R95: the QUIET counts of the masters of a list. Each follows its port's head request, or where the tick meets a CUTOFF
event the order of the two, which is free but for `first`; nothing else but the count of free values changes. -/
theorem State.countOne_fold (first : Option Master) (l : List Master) (hl : l.Nodup) (s : State) :
    ∃ silent : Master → Bool,
      (∀ m ∈ l, (l.foldl (State.countOne first) s).conf m = quietCount (silent m) (s.conf m)) ∧
      (∀ m ∈ l, s.meetsCutoff m = false → silent m = (s.port m).head.isNone) ∧
      (∀ m ∈ l, s.meetsCutoff m = true → first = some m → silent m = true) ∧
      (∀ m, m ∉ l → (l.foldl (State.countOne first) s).conf m = s.conf m) ∧
      ((∀ m ∈ l, s.meetsCutoff m = true → first = some m) → (l.foldl (State.countOne first) s).draws = s.draws) ∧
      l.foldl (State.countOne first) s =
        { s with masters := (l.foldl (State.countOne first) s).masters, draws := (l.foldl (State.countOne first) s).draws } := by
  induction l generalizing s with
  | nil => exact ⟨fun _ => false, by simp⟩
  | cons a l ih =>
    obtain ⟨ha, hl⟩ := List.nodup_cons.mp hl
    have frame := s.countOne_frame first a
    have ports : (s.countOne first a).ports = s.ports := by rw [frame]
    have pin : (s.countOne first a).resetPin = s.resetPin := by rw [frame]
    have ne : ∀ m ∈ l, m ≠ a := fun m hm e => ha (e ▸ hm)
    have conf : ∀ m ∈ l, (s.countOne first a).conf m = s.conf m := fun m hm => s.countOne_conf_ne first (ne m hm)
    have meets : ∀ m ∈ l, (s.countOne first a).meetsCutoff m = s.meetsCutoff m :=
      fun m hm => State.meetsCutoff_congr m (conf m hm) ports pin
    obtain ⟨silent, h1, h2, h3, h4, h5, h6⟩ := ih hl (s.countOne first a)
    obtain ⟨own, o1, o2, o3, o4⟩ : ∃ own : Bool, (s.countOne first a).conf a = quietCount own (s.conf a) ∧
        (s.meetsCutoff a = false → own = (s.port a).head.isNone) ∧
        (s.meetsCutoff a = true → first = some a → own = true) ∧
        ((s.meetsCutoff a = true → first = some a) → (s.countOne first a).draws = s.draws) := by
      obtain ⟨hm, hf, e⟩ | ⟨hm, e⟩ := s.countOne_cases first a
      · refine ⟨s.drawPlace 2 == 0, ?_, by simp [hm], fun _ h => absurd h hf, fun h => absurd (h hm) hf⟩
        rw [e]
        exact s.setConf_conf_self a _
      · exact ⟨(s.port a).head.isNone || s.meetsCutoff a, by rw [e]; simp, by simp +contextual, by simp +contextual, by simp [e]⟩
    refine ⟨fun m => if m = a then own else silent m, fun m hm => ?_, fun m hm h => ?_, fun m hm h hf => ?_, fun m hm => ?_,
      fun h => ?_, ?_⟩
    · obtain rfl | hm := List.mem_cons.mp hm
      · simp only [List.foldl, h4 m ha, o1, if_true]
      · simp only [List.foldl, h1 m hm, conf m hm, if_neg (ne m hm)]
    · obtain rfl | hm := List.mem_cons.mp hm
      · simpa using o2 h
      · simpa [ne m hm, State.port_congr ports m] using h2 m hm ((meets m hm).trans h)
    · obtain rfl | hm := List.mem_cons.mp hm
      · simpa using o3 h hf
      · simpa [ne m hm] using h3 m hm ((meets m hm).trans h) hf
    · simp only [List.mem_cons, not_or] at hm
      simp only [List.foldl, h4 m hm.2, s.countOne_conf_ne first hm.1]
    · simp only [List.foldl]
      rw [h5 fun m hm hc => h m (List.mem_cons_of_mem _ hm) ((meets m hm).symm.trans hc), o4 (h a (by simp))]
    · simp only [List.foldl]
      rw [h6, frame]

/-! ### The service link -/

/-- A falling edge of SCLK while SCLK is low is none. -/
@[simp] theorem State.sclkFall_low (s : State) (h : s.link.sclk = false) : s.sclkFall = s := by simp [State.sclkFall, h]

/-- R170, R182: everything that the falling edge of a high SCLK can do. -/
theorem State.sclkFall_cases (s : State) (h : s.link.sclk = true) :
    ((s.resetPin = true ∨ s.link.ssel = false) ∧ s.sclkFall = s.setSclk false) ∨
      (∃ f, s.resetPin = false ∧ s.link.ssel = true ∧ s.link.frame = some f ∧
        s.sclkFall = { s with link := { s.link with sclk := false, sdout := some (sdoutBit s.link.retained f) } }) ∨
      (s.resetPin = false ∧ s.link.ssel = true ∧ s.link.frame = none ∧
        s.sclkFall =
          { s with link := { s.link with sclk := false, sdout := Config.sdoutUnstated s.draws }, draws := s.draws + 1 }) := by
  cases hr : s.resetPin <;> cases hs : s.link.ssel <;> cases hf : s.link.frame <;>
    simp [State.sclkFall, State.setSclk, h, hr, hs, hf]

/-- A falling edge touches the link's SCLK and SDOUT and the count of free values alone. -/
theorem State.sclkFall_frame (s : State) :
    s.sclkFall = { s with link := { s.link with sclk := false, sdout := s.sclkFall.link.sdout }, draws := s.sclkFall.draws } := by
  cases h : s.link.sclk with
  | false => rw [s.sclkFall_low h, ← h]
  | true =>
    obtain ⟨-, e⟩ | ⟨f, -, -, -, e⟩ | ⟨-, -, -, e⟩ := s.sclkFall_cases h <;> rw [e]
    rfl

@[simp] theorem State.sclkFall_resetPin (s : State) : s.sclkFall.resetPin = s.resetPin := by rw [s.sclkFall_frame]
@[simp] theorem State.sclkFall_ssel (s : State) : s.sclkFall.link.ssel = s.link.ssel := by rw [s.sclkFall_frame]
@[simp] theorem State.sclkFall_sclk (s : State) : s.sclkFall.link.sclk = false := by rw [s.sclkFall_frame]
@[simp] theorem State.sclkFall_linkFrame (s : State) : s.sclkFall.link.frame = s.link.frame := by rw [s.sclkFall_frame]
@[simp] theorem State.sclkFall_retained (s : State) : s.sclkFall.link.retained = s.link.retained := by rw [s.sclkFall_frame]
@[simp] theorem State.sclkFall_given (s : State) : s.sclkFall.link.given = s.link.given := by rw [s.sclkFall_frame]
@[simp] theorem State.sclkFall_origin (s : State) : s.sclkFall.link.origin = s.link.origin := by rw [s.sclkFall_frame]

/-- R170, R182: a bit taken into the frame in progress, or none. -/
theorem State.sample_cases (s : State) (b : Bool) :
    (∃ f, s.resetPin = false ∧ s.link.ssel = true ∧ s.link.frame = some f ∧
        s.sample b = { s with link := s.link.shift f b }) ∨
      ((s.resetPin = true ∨ s.link.ssel = false ∨ s.link.frame = none) ∧ s.sample b = s) := by
  cases hr : s.resetPin <;> cases hs : s.link.ssel <;> cases hf : s.link.frame <;> simp [State.sample, hr, hs, hf]

/-- The end of a command frame, with its answer retained. -/
theorem State.endCommand_eq (s : State) (f : List Byte) (a : Answer) : s.endCommand f a = s.answered f a := rfl

/-- The command event of a frame that the link can take. -/
theorem State.command_takes (s : State) (body : List Byte) (e : Effect) (h : s.accepts (withCheck body) [] = true) :
    s.command body e = (e s).2.answered (withCheck body) (e s).1 := by
  simp [State.command, h, State.endCommand_eq]

/-- A frame that the link cannot take is no command event. -/
theorem State.command_refuses (s : State) (body : List Byte) (e : Effect) (h : s.accepts (withCheck body) [] = false) :
    s.command body e = s := by
  simp [State.command, h]

end Sys2Proof.Machine
end

