-- ==== Sys2Proof/WellFormed.lean ====
section
/-! DEFINITION. The check of a command's operands, where their types do not already confine them. An ill-formed command names no
event of the unit, and the machine leaves its state as it stands for one (notes/assumptions/3.md). -/

namespace Sys2Proof

/-- A command is well formed when its operands can belong to the event its row names:
* a frame ends with at most seven bits of a byte not completed (R170);
* COMMAND_FRAME_BEGIN names a first byte other than 00h (R171);
* UNKNOWN_CODE_FRAME names a command frame (R171) that lines 1 to 6 of R173 refuse. -/
def Instr.wellFormed (i : Instr) : Bool :=
  match i with
  | .commandFrameBegin code => code != 0#8
  | .readAnswerFrame _ tail => decide (tail.length < 8)
  | .unknownCodeFrame bytes tail =>
    isCommandFrame bytes && decide (tail.length < 8) && decide (judgeFrame bytes tail ≠ .accepted)
  | .requestPresentation _ _ => true
  | .admissionEvent _ => true
  | .cutoffEvent _ => true
  | .writeDataBeat _ _ => true
  | .fillingStall _ => true
  | .enterDelivering _ => true
  | .responseItemTake _ => true
  | .deliveringStall _ => true
  | .pclrAssertion _ => true
  | .pclrRelease _ => true
  | .grant => true
  | .issueTake => true
  | .writeDataTake => true
  | .readBeat _ _ _ => true
  | .writeAcknowledge _ => true
  | .memoryTimeout => true
  | .abortAcknowledge => true
  | .abortTimeout => true
  | .tick => true
  | .quietRecovery _ => true
  | .witnessRecovery _ _ => true
  | .readStatus => true
  | .setMode _ => true
  | .readMaster _ => true
  | .setRecovery _ _ => true
  | .clearScore _ => true
  | .isolate _ => true
  | .restore _ => true
  | .writeWindow _ _ _ _ _ => true
  | .readWindow _ => true
  | .setFill _ => true
  | .setTiming _ _ _ => true
  | .setDeferral _ => true
  | .readSettings => true
  | .holdMemory => true
  | .releaseMemory => true
  | .restoreMemory => true
  | .peekFault => true
  | .popFault => true
  | .setRecordMask _ => true
  | .readAlerts => true
  | .clearAlerts _ => true
  | .setAlertEnables _ => true
  | .readSlot _ => true
  | .resetPart => true
  | .powerOnReset => true
  | .resetAssertion => true
  | .resetRelease => true
  | .sselAssertion => true
  | .sclkRisingEdge _ => true
  | .ignoredFrameEnd => true
  | .tclkEdge => true

end Sys2Proof
end

