-- ==== Sys2Proof/Tests/Slice0.lean ====
section
/-! SUPPORT. Tests: the refusals of WellFormed, single commands against the worked sequences of spec/, and for every statement with
hypotheses a concrete state and operands that meet them, clause by clause, at the ends of their ranges. -/

set_option maxRecDepth 20000

namespace Sys2Proof.Tests

open Sys2Proof Sys2Proof.Machine

/-! ### Ill-formed operands are refused by the check, and a command without bits is no word -/

theorem test_first_byte_of_a_command_frame_is_not_zero : (Instr.commandFrameBegin 0#8).wellFormed = false := by decide

theorem test_tail_of_a_read_answer_frame_is_less_than_a_byte :
    (Instr.readAnswerFrame [] (List.replicate 8 true)).wellFormed = false ∧
      (Instr.readAnswerFrame [] (List.replicate 7 true)).wellFormed = true := by decide

theorem test_unknown_code_frame_is_a_refused_command_frame :
    (Instr.unknownCodeFrame [0x00#8] []).wellFormed = false ∧
      (Instr.unknownCodeFrame [0x09#8] (List.replicate 8 true)).wellFormed = false ∧
      (Instr.unknownCodeFrame [0x01#8, 0xFF#8] []).wellFormed = false ∧
      (Instr.unknownCodeFrame [0x09#8, 0xF7#8] []).wellFormed = true := by decide

theorem test_no_word_spells_a_command : decodeTableWord 16 0xFF01 = none ∧ State.reset.withFetchWord 16 0xFF01 = State.reset := by
  decide

/-! ### States for the tests -/

/-- The state after a command; the state itself where a step stops, which no command does. -/
def after (s : State) (c : Instr) : State :=
  match exec c s with
  | .next t => t
  | .fault _ => s
  | .refused _ => s

/-- A live slot of master `m` at address 1000, with the reservation of its beats. -/
def slotOf (m : Master) (ph : Phase) (kind : Kind) (tag : Tag) (beats : BeatCount) (adm : Serial) : Slot :=
  { phase := ph, master := m, tag := tag, kind := kind, address := some 1000#24, beats := beats, reserved := beats.val
    window := some 2, outcome := none, cause := none, corrected := false, orphan := false, admission := adm, timer := none
    progress := 0, words := [], enables := [] }

/-- GUARD mode, with a window open to every master at the addresses 0 to 4999. -/
def guarded : State :=
  { State.reset with mode := .guarded }.setWindow 2
    { live := true, base := 0#24, last := 4999#24, rights := Vector.replicate 4 .readWrite }

/-- A state in which a read of master 1 in slot 5 is at the memory. -/
def reading : State :=
  { guarded.setSlot 5 (some (slotOf 1 .issued .read 0 4 7)) with
    freeWords := 60, mem := { MemPort.fresh with state := .busy, timer := some 0 } }

/-- A state in which a write of two beats of master 1 in slot 5 is at the memory, which has taken one of its beats. -/
def writing : State :=
  { guarded.setSlot 5 (some { slotOf 1 .issued .write 0 2 7 with words := [1#32, 2#32], enables := [15#4, 15#4] }) with
    freeWords := 62, mem := { MemPort.fresh with state := .busy, timer := some 3, taken := 1, issueOffered := true } }

/-- A state in which master 1 fills a write of four beats in slot 3, three of which it has sent. -/
def filling : State :=
  ({ guarded.setSlot 3 (some { slotOf 1 .filling .write 0 4 0 with progress := 3, timer := some 0 }) with freeWords := 60 }).setPort 1
    { Port.empty with writeList := [.fill 3] }

/-- A state in which master 1 is given the response of a read of two beats in slot 3. -/
def delivering : State :=
  ({ guarded.setSlot 3 (some { slotOf 1 .delivering .read 0 2 0 with
      outcome := some .done, timer := some 0, words := [7#32, 8#32] }) with freeWords := 62 }).setPort 1
    { Port.empty with offer := some ⟨0, .done, some 7#32, false, false, false⟩ }

/-- A state in which master `m` is ISOLATED under a recovery mode, with a count. -/
def isolated (m : Master) (r : RecoveryMode) (count : Nat) : State :=
  (guarded.setConf m { Confinement.fresh with score := 256, standing := .isolated, recovery := r, count := count }).setPort m
    { Port.empty with cut := true }

/-- A state in which master `m` is LIMITED with a score. -/
def limited (m : Master) (score : Nat) : State :=
  guarded.setConf m { Confinement.fresh with score := score, standing := .limited, deferral := 2 }

/-- A request. -/
def request (kind : Kind) (tag : Tag) (address : Addr) (beats : BeatCount) : Request := ⟨kind, tag, address, beats⟩

/-- A state in which port `p` holds a head request. -/
def asking (s : State) (p : Master) (r : Request) : State := s.setPort p { s.port p with head := some r }

/-! ### Single commands, with results taken from spec/ -/

/-- Section 1.9: a write of 4 beats enters FILLING with 4 words reserved, a DENIED read of 2 beats READY with the fill word. -/
theorem test_admission_of_a_write :
    let t := after (asking guarded 1 (request .write 0 1000#24 4)) (.admissionEvent 1)
    (t.slot 0).map (·.phase) = some .filling ∧ t.freeWords = 60 ∧ (t.port 1).writeList = [.fill 0] := by decide

theorem test_admission_of_an_unmapped_read :
    let t := after (asking guarded 1 (request .read 1 5000#24 2)) (.admissionEvent 1)
    (t.slot 0).map (·.words) = some [0xFFFFFFFF#32, 0xFFFFFFFF#32] ∧ (t.slot 0).map (·.outcome) = some (some .unmapped) ∧
      (t.conf 1).score = 4 := by decide

/-- R25: the beat counts 0 and 17 are BEATS, a burst past address 16,777,215 is RANGE. -/
theorem test_malformed_requests :
    guarded.formCause 0 (request .read 0 0#24 0) = some .beats ∧ guarded.formCause 0 (request .read 0 0#24 17) = some .beats ∧
      guarded.formCause 0 (request .read 0 0xFFFFFF#24 1) = none ∧
      guarded.formCause 0 (request .read 0 0xFFFFFF#24 2) = some .range := by decide

/-- Section 12.8: a short burst raises the score of master 1 from 124 to 132, and makes it LIMITED. -/
theorem test_short_burst_limits :
    let s := { filling with masters := filling.masters.set 1 { Confinement.fresh with score := 124 } }.setSlot 3
      (some (slotOf 1 .filling .write 0 4 0))
    let t := after s (.writeDataBeat 1 ⟨0#32, 15#4, true⟩)
    (t.conf 1).score = 132 ∧ (t.conf 1).standing = .limited ∧ t.alerts.flags.standing = true ∧
      t.queue.records.map (·.sequence) = [0#16, 1#16] := by decide

/-- Section 12.6: ISOLATE frees two slots, makes the ISSUED one an orphan, and returns 6 words to the 30. -/
theorem test_isolate_drops :
    let s := { ((guarded.setSlot 2 (some (slotOf 0 .filling .write 0 4 5))).setSlot 3
      (some (slotOf 0 .issued .read 1 8 6))).setSlot 4 (some (slotOf 0 .ready .read 2 2 7)) with freeWords := 30 }
    let t := after (s.setPort 0 { Port.empty with writeList := [.fill 2] }) (.isolate 0#8)
    t.slot 2 = none ∧ (t.slot 3).map (·.orphan) = some true ∧ t.slot 4 = none ∧ t.freeWords = 36 ∧
      (t.port 0).writeList = [.discard] ∧ (t.port 0).cut = true ∧ (t.conf 0).score = 256 := by decide

/-- Section 12.7: a service reset on a BUSY port leaves it DRAINING with ABORT raised and a fresh abort timer of 64 ticks. -/
theorem test_service_reset_drains :
    let t := after { reading with health := ⟨40, .sound⟩ } .resetPart
    t.slot 5 = none ∧ t.mem.state = .draining ∧ t.mem.abort = true ∧ t.mem.timer = some 64 ∧ t.health = ⟨0, .sound⟩ := by
  decide

/-- R119: four GOOD beats complete the read DONE; a BAD one gives MEMFAULT and raises the memory score by 16. -/
theorem test_bad_beat_faults :
    let s := { reading with mem := { reading.mem with received := 3 } }
    ((after s (.readBeat 9#32 0#2 true)).slot 5).map (·.outcome) = some (some .done) ∧
      ((after s (.readBeat 9#32 3#2 true)).slot 5).map (·.outcome) = some (some .memfault) ∧
      (after s (.readBeat 9#32 2#2 true)).health.score = 16 := by decide

/-- R147: with the divider setting 4 the sixteenth edge gives a tick, which takes a timer from 64 to 63. -/
theorem test_sixteenth_edge_ticks :
    let s := { reading with time := { reading.time with count := 15 }, mem := { reading.mem with timer := some 64 } }
    (after s .tclkEdge).mem.timer = some 63 ∧ (after s .tclkEdge).time.count = 0 := by decide

/-! ### Hypotheses met: the queue and the service link -/

theorem witness_FrontCommandIsCarriedOut :
    { State.reset with pending := [.tick, .grant] }.pending = .tick :: [.grant] ∧
      (State.reset.pending = [] ∧ State.reset.link.sclk = false) ∧
      ((State.reset.setSclk true).pending = [] ∧ (State.reset.setSclk true).link.sclk = true) := by decide

theorem witness_FramesDecodeToTheirCommand :
    encodeFrame .readStatus = some [0x01#8, 0xFF#8] ∧ encodeFrame (.setRecordMask 0xFFFF#16) = some [0x15#8, 0xFF#8, 0xFF#8, 0xED#8] := by
  decide

theorem witness_DecodedFramesAreTheEncodedOnes : decodeFrame [0x01#8, 0xFF#8] [] = some .readStatus := by decide

theorem witness_ShiftedBitsAreTheCommand :
    encodeFrame (.setMode 1#8) = some [0x11#8, 0x01#8, 0xEE#8] ∧ State.reset.link.ssel = false ∧ State.reset.resetPin = false := by
  decide

theorem witness_ShiftedBitsGiveTheAnswer :
    (List.replicate 7 true).length < 8 ∧ State.reset.link.ssel = false ∧ State.reset.resetPin = false ∧
      State.reset.link.retained = some ⟨.none, []⟩ := by decide

/-- R170, R175: the answer NONE is 00h 00h, and SDOUT keeps the bit sampled at a rising edge until the falling edge after it. -/
theorem test_sdout_changes_at_the_falling_edge :
    (State.reset.selectAndShift (List.replicate 8 false)).link.sdout = some true ∧
      (State.reset.selectAndShift (List.replicate 8 false)).sclkFall.link.sdout = some false ∧
      step (State.reset.selectAndShift (List.replicate 8 false)) =
        .next (State.reset.selectAndShift (List.replicate 8 false)).sclkFall := by
  exact ⟨by decide, by decide, rfl⟩

/-- R182: an edge of SSEL under an asserted RESET leaves SDOUT not driven. -/
theorem test_ssel_under_reset_leaves_sdout :
    let t := after { State.reset with resetPin := true } .sselAssertion
    t.link.ssel = true ∧ t.link.sdout = none ∧ t.link.frame = none := by decide

/-- A state in which a frame is in progress, or one is ignored since a reset. -/
def shifting (f : Option Frame) : State :=
  { State.reset with link := { State.reset.link with ssel := true, sclk := true, frame := f, sdout := some true } }

theorem witness_LinkLineEvents :
    (State.reset.resetPin = false ∧ State.reset.link.ssel = false ∧ (1#8 : Byte) ≠ 0#8) ∧
    (∀ n ∈ [0, 6, 7], (shifting (some ⟨[], 0, List.replicate n true⟩)).resetPin = false ∧
      (shifting (some ⟨[], 0, List.replicate n true⟩)).link.ssel = true ∧
      (shifting (some ⟨[], 0, List.replicate n true⟩)).link.sclk = true ∧
      (shifting (some ⟨[], 0, List.replicate n true⟩)).link.frame = some ⟨[], 0, List.replicate n true⟩ ∧
      List.replicate n true <+: byteBits 0xFF#8) ∧
    ((shifting (some ⟨[0#8], 1, []⟩)).link.frame = some ⟨[0#8], 1, []⟩ ∧
      (shifting (some ⟨[0#8], 1, []⟩)).link.retained = some ⟨.none, []⟩ ∧
      (shifting (some ⟨[1#8], 1, []⟩)).link.frame = some ⟨[1#8], 1, []⟩ ∧ isCommandFrame [1#8] = true) ∧
    ((shifting none).resetPin = false ∧ (shifting none).link.ssel = true ∧ (shifting none).link.frame = none) ∧
    ({ State.reset with resetPin := true }.resetPin = true ∧ { State.reset with resetPin := true }.link.ssel = false) ∧
    ({ shifting none with resetPin := true }.resetPin = true ∧ { shifting none with resetPin := true }.link.sclk = true) := by
  decide

theorem witness_RefusedFramesAreAnswered :
    (isCommandFrame [0x01#8, 0xFF#8] = true ∧ [true].length < 8 ∧ State.reset.accepts [0x01#8, 0xFF#8] [true] = true ∧
      [true] ≠ []) ∧
    (isCommandFrame (List.replicate 12 1#8) = true ∧ State.reset.accepts (List.replicate 12 1#8) [] = true ∧
      11 < (List.replicate 12 1#8).length) ∧
    (isCommandFrame [0x09#8, 0xF7#8] = true ∧ State.reset.accepts [0x09#8, 0xF7#8] [] = true ∧
      frameLength ([0x09#8, 0xF7#8].headD 0#8) = none ∧ byteSum [0x09#8, 0xF7#8] = 0#8) ∧
    (isCommandFrame (List.replicate 11 9#8) = true ∧ State.reset.accepts (List.replicate 11 9#8) [] = true ∧
      (List.replicate 11 9#8).length ≤ 11 ∧ frameLength 9#8 = none ∧ byteSum (List.replicate 11 9#8) ≠ 0#8) ∧
    (isCommandFrame [0x01#8, 0x00#8, 0xFF#8] = true ∧ State.reset.accepts [0x01#8, 0x00#8, 0xFF#8] [] = true ∧
      frameLength 0x01#8 = some 2 ∧ [0x01#8, 0x00#8, 0xFF#8].length ≠ 2 ∧ byteSum [0x01#8, 0xFE#8] ≠ 0#8) := by decide

theorem witness_FramesAndAnswersCheck : encodeFrame .resetPart = some [0x3C#8, 0xC4#8] := by decide

theorem witness_ReadingCommandsAnswer :
    State.reset.takesFrame .readStatus [0x01#8, 0xFF#8] ∧ State.reset.takesFrame .readSettings [0x02#8, 0xFE#8] ∧
    State.reset.takesFrame .readAlerts [0x03#8, 0xFD#8] ∧
    (State.reset.takesFrame (.readMaster 3#8) [0x04#8, 0x03#8, 0xF9#8] ∧ (3#8 : Byte).toNat = (3 : Master).val) ∧
    (State.reset.takesFrame (.readMaster 4#8) [0x04#8, 0x04#8, 0xF8#8] ∧ 4 ≤ (4#8 : Byte).toNat) ∧
    (State.reset.takesFrame (.readWindow 15#8) [0x05#8, 0x0F#8, 0xEC#8] ∧ (15#8 : Byte).toNat = (15 : WindowIx).val) ∧
    (State.reset.takesFrame (.readWindow 16#8) [0x05#8, 0x10#8, 0xEB#8] ∧ 16 ≤ (16#8 : Byte).toNat) ∧
    (State.reset.takesFrame (.readSlot 15#8) [0x06#8, 0x0F#8, 0xEB#8] ∧ (15#8 : Byte).toNat = (15 : SlotIx).val ∧
      State.reset.slot 15 = none) ∧
    (State.reset.takesFrame (.readSlot 16#8) [0x06#8, 0x10#8, 0xEA#8] ∧ 16 ≤ (16#8 : Byte).toNat) ∧
    (reading.takesFrame (.readSlot 5#8) [0x06#8, 0x05#8, 0xF5#8] ∧ (5#8 : Byte).toNat = (5 : SlotIx).val ∧
      reading.slot 5 = some (slotOf 1 .issued .read 0 4 7)) := by decide

/-- A state with records stored. -/
def withRecords (l : List FaultRecord) : State := { State.reset with queue := { State.reset.queue with records := l } }

/-- A record. -/
def record : FaultRecord := ⟨0#16, 0, .mode .guarded⟩

/-- A state in which a frame has been shifted in but for its last bit. -/
def allButOne (s : State) (f : List Byte) : State := s.selectAndShift ((bytesBits f).take (8 * f.length - 1))

/-- Each command with its frame yet to come, and with all of it but a bit shifted in. -/
theorem witness_PeekAndPopFault :
    (∀ s ∈ [State.reset, withRecords [record], withRecords [record, record]],
      s.takesFrame .peekFault [0x07#8, 0xF9#8] ∧ s.takesFrame .popFault [0x08#8, 0xF8#8]) ∧
    State.reset.queue.records = [] ∧ (withRecords [record]).queue.records = record :: [] ∧
    (withRecords [record, record]).queue.records = record :: [record] ∧
    (allButOne (withRecords [record]) [0x07#8, 0xF9#8]).takesFrame .peekFault [0x07#8, 0xF9#8] ∧
    (allButOne (withRecords [record]) [0x08#8, 0xF8#8]).takesFrame .popFault [0x08#8, 0xF8#8] ∧
    (allButOne (withRecords [record]) [0x08#8, 0xF8#8]).queue.records = record :: [] := by decide

/-! ### Hypotheses met: the commands of the link -/

theorem witness_SettingAndModeCommandsAct :
    State.reset.takesFrame (.setFill 0#32) [0x12#8, 0#8, 0#8, 0#8, 0#8, 0xEE#8] ∧
    (State.reset.takesFrame (.setDeferral 15#8) [0x14#8, 0x0F#8, 0xDD#8] ∧ (15#8 : Byte).toNat ≤ 15) ∧
    (State.reset.takesFrame (.setDeferral 16#8) [0x14#8, 0x10#8, 0xDC#8] ∧ 15 < (16#8 : Byte).toNat) ∧
    (State.reset.takesFrame (.setTiming 8#8 1#8 255#8) [0x13#8, 0x08#8, 0x01#8, 0xFF#8, 0xE5#8] ∧ (8#8 : Byte).toNat ≤ 8 ∧
      (1#8 : Byte) ≠ 0#8 ∧ (255#8 : Byte) ≠ 0#8) ∧
    (State.reset.takesFrame (.setTiming 9#8 1#8 1#8) [0x13#8, 0x09#8, 0x01#8, 0x01#8, 0xE2#8] ∧ 8 < (9#8 : Byte).toNat) ∧
    State.reset.takesFrame (.setTiming 8#8 0#8 1#8) [0x13#8, 0x08#8, 0x00#8, 0x01#8, 0xE4#8] ∧
    (State.reset.takesFrame (.setRecordMask 2047#16) [0x15#8, 0x07#8, 0xFF#8, 0xE5#8] ∧ (2047#16).toNat < 2048) ∧
    (State.reset.takesFrame (.setRecordMask 2048#16) [0x15#8, 0x08#8, 0x00#8, 0xE3#8] ∧ 2048 ≤ (2048#16).toNat) ∧
    (State.reset.takesFrame (.setMode 1#8) [0x11#8, 0x01#8, 0xEE#8] ∧ (1#8 : Byte) = Mode.guarded.code ∧
      State.reset.mode ≠ .guarded) ∧
    (State.reset.takesFrame (.setMode 0#8) [0x11#8, 0x00#8, 0xEF#8] ∧ (0#8 : Byte) = Mode.pass.code ∧ State.reset.mode = .pass) ∧
    (State.reset.takesFrame (.setMode 2#8) [0x11#8, 0x02#8, 0xED#8] ∧ (2#8 : Byte) ≠ 0#8 ∧ (2#8 : Byte) ≠ 1#8) := by decide

theorem witness_WriteWindowReplacesTheEntry :
    (State.reset.takesFrame (.writeWindow 15#8 1#8 7#24 7#24 0xAA#8)
        [0x18#8, 0x0F#8, 0x01#8, 0#8, 0#8, 7#8, 0#8, 0#8, 7#8, 0xAA#8, 0x20#8] ∧
      (15#8 : Byte).toNat < 16 ∧ (1#8 : Byte).toNat ≤ 1 ∧ (7#24).toNat ≤ (7#24).toNat ∧
      (∀ m : Master, ((0xAA#8 : Byte).extractLsb' (2 * m.val) 2).toNat ≠ 3) ∧ (15 : WindowIx).val = (15#8 : Byte).toNat) ∧
    (State.reset.takesFrame (.writeWindow 16#8 1#8 7#24 7#24 0xAA#8)
        [0x18#8, 0x10#8, 0x01#8, 0#8, 0#8, 7#8, 0#8, 0#8, 7#8, 0xAA#8, 0x1F#8] ∧ ¬(16#8 : Byte).toNat < 16) ∧
    (State.reset.takesFrame (.writeWindow 15#8 1#8 8#24 7#24 0xC0#8)
        [0x18#8, 0x0F#8, 0x01#8, 0#8, 0#8, 8#8, 0#8, 0#8, 7#8, 0xC0#8, 0x09#8] ∧ ¬(8#24).toNat ≤ (7#24).toNat ∧
      ((0xC0#8 : Byte).extractLsb' (2 * (3 : Master).val) 2).toNat = 3) := by decide

theorem witness_AlertCommandsAct :
    (State.reset.takesFrame (.clearAlerts 63#8) [0x17#8, 0x3F#8, 0xAA#8] ∧ (63#8 : Byte).toNat < 64) ∧
    (State.reset.takesFrame (.clearAlerts 64#8) [0x17#8, 0x40#8, 0xA9#8] ∧ 64 ≤ (64#8 : Byte).toNat) ∧
    State.reset.takesFrame (.setAlertEnables 63#8) [0x16#8, 0x3F#8, 0xAB#8] ∧
    State.reset.takesFrame (.setAlertEnables 64#8) [0x16#8, 0x40#8, 0xAA#8] := by decide

theorem witness_RecordCommandsAct :
    (State.reset.takesFrame (.setRecovery 3#8 2#8) [0x21#8, 0x03#8, 0x02#8, 0xDA#8] ∧ (3#8 : Byte).toNat = (3 : Master).val ∧
      (2#8 : Byte) = RecoveryMode.manual.code) ∧
    (State.reset.takesFrame (.setRecovery 4#8 2#8) [0x21#8, 0x04#8, 0x02#8, 0xD9#8] ∧ 4 ≤ (4#8 : Byte).toNat) ∧
    (State.reset.takesFrame (.setRecovery 3#8 3#8) [0x21#8, 0x03#8, 0x03#8, 0xD9#8] ∧ 3 ≤ (3#8 : Byte).toNat) ∧
    (State.reset.takesFrame (.clearScore 3#8) [0x22#8, 0x03#8, 0xDB#8] ∧ (State.reset.conf 3).standing = .active) ∧
    (State.reset.takesFrame (.clearScore 4#8) [0x22#8, 0x04#8, 0xDA#8] ∧ 4 ≤ (4#8 : Byte).toNat) ∧
    ((limited 3 128).takesFrame (.clearScore 3#8) [0x22#8, 0x03#8, 0xDB#8] ∧ ((limited 3 128).conf 3).standing = .limited) ∧
    ((isolated 3 .quiet 0).takesFrame (.clearScore 3#8) [0x22#8, 0x03#8, 0xDB#8] ∧
      ((isolated 3 .quiet 0).conf 3).standing = .isolated) := by decide

theorem witness_IsolateAndRestoreCommandsAct :
    ((limited 3 255).takesFrame (.isolate 3#8) [0x23#8, 0x03#8, 0xDA#8] ∧ (3#8 : Byte).toNat = (3 : Master).val ∧
      ((limited 3 255).conf 3).standing ≠ .isolated) ∧
    ((isolated 3 .manual 0).takesFrame (.isolate 3#8) [0x23#8, 0x03#8, 0xDA#8] ∧
      ((isolated 3 .manual 0).conf 3).standing = .isolated) ∧
    (State.reset.takesFrame (.isolate 4#8) [0x23#8, 0x04#8, 0xD9#8] ∧ 4 ≤ (4#8 : Byte).toNat) ∧
    (isolated 3 .manual 0).takesFrame (.restore 3#8) [0x24#8, 0x03#8, 0xD9#8] ∧
    (State.reset.takesFrame (.restore 3#8) [0x24#8, 0x03#8, 0xD9#8] ∧ (State.reset.conf 3).standing ≠ .isolated) ∧
    State.reset.takesFrame (.restore 4#8) [0x24#8, 0x04#8, 0xD8#8] := by decide

/-- A state in which the memory port is in a given state. -/
def portIn (p : PortState) : State := { State.reset with mem := { MemPort.fresh with state := p } }

theorem witness_MemoryCommandsAct :
    (∀ p ∈ [PortState.idle, .busy, .draining, .held, .failed],
      (portIn p).takesFrame .holdMemory [0x31#8, 0xCF#8] ∧ (portIn p).takesFrame .releaseMemory [0x32#8, 0xCE#8] ∧
      (portIn p).takesFrame .restoreMemory [0x33#8, 0xCD#8] ∧ (portIn p).mem.state = p) ∧
    (allButOne (portIn .idle) [0x31#8, 0xCF#8]).takesFrame .holdMemory [0x31#8, 0xCF#8] ∧
    (allButOne (portIn .held) [0x32#8, 0xCE#8]).takesFrame .releaseMemory [0x32#8, 0xCE#8] := by decide

theorem witness_RefusedCommandsChangeNothing :
    let t := after State.reset (.setMode 2#8)
    State.reset.takesFrame (.setMode 2#8) [0x11#8, 0x02#8, 0xED#8] ∧ exec (.setMode 2#8) State.reset = .next t ∧
      t.link.retained = some ⟨.range, []⟩ ∧ (Answer.mk .range []).status ≠ .ok := by
  refine ⟨by decide, rfl, by decide, by decide⟩

/-! ### Hypotheses met: records, isolation, scores and the wait list -/

theorem witness_RecordsAreHandedOver :
    (State.reset.queue.mask.getLsbD (RecordBody.memoryCorrected 0 0 none false 0).code = false) ∧
    (State.reset.queue.mask.getLsbD (RecordBody.mode .pass).code = true ∧ State.reset.queue.records = []) ∧
    ((withRecords (List.replicate 31 record)).queue.mask.getLsbD (RecordBody.mode .pass).code = true ∧
      (withRecords (List.replicate 31 record)).queue.records.length < 32 ∧
      (withRecords (List.replicate 31 record)).queue.records ≠ []) ∧
    ((withRecords (List.replicate 32 record)).queue.mask.getLsbD (RecordBody.mode .pass).code = true ∧
      32 ≤ (withRecords (List.replicate 32 record)).queue.records.length) := by decide

theorem witness_IsolationDropsTheMaster :
    let ends : Slot → Bool := fun x => x.master == 1 && !x.orphan && x.phase != .issued
    (delivering.slot 3).any ends = true ∧
      (reading.slot 5 = some (slotOf 1 .issued .read 0 4 7) ∧ (slotOf 1 .issued .read 0 4 7).master = 1) ∧
      ((guarded.setSlot 0 (some (slotOf 2 .queued .read 0 1 0))).slot 0 = some (slotOf 2 .queued .read 0 1 0) ∧
        (slotOf 2 .queued .read 0 1 0).master ≠ 1) ∧ reading.slot 0 = none := by decide

theorem witness_ScoreChangesAreApplied :
    State.reset.mode = .pass ∧
    (guarded.mode = .guarded ∧ (guarded.conf 0).standing = .active ∧ (guarded.conf 0).score < 128 ∧
      (guarded.conf 0).score + 127 < 128 ∧ 128 ≤ (guarded.conf 0).score + 128 ∧ (guarded.conf 0).score + 255 < 256) ∧
    ((limited 0 255).mode = .guarded ∧ ((limited 0 255).conf 0).standing = .limited ∧ 128 ≤ ((limited 0 255).conf 0).score ∧
      ((limited 0 255).conf 0).score < 256 ∧ ((limited 0 255).conf 0).score + 0 < 256 ∧
      256 ≤ ((limited 0 255).conf 0).score + 1 ∧ 129 ≤ ((limited 0 255).conf 0).score) ∧
    (((limited 0 128).conf 0).standing = .limited ∧ ((limited 0 128).conf 0).score = 128) := by decide

/-- Port 3 holds a request of two words while one is free. -/
def crowded : State := { asking guarded 3 (request .read 0 0#24 2) with freeWords := 1 }

theorem witness_WaitersJoinTheList :
    (∀ p : Master, State.reset.mustJoin p = false) ∧ crowded.mustJoin 3 = true ∧ crowded.joinWaiters.waitList = [3] ∧
      (let s := asking crowded 0 (request .read 0 0#24 1)
       s.mustJoin 0 = false ∧ (s.ready17 0).isSome = true ∧ 0 ∉ s.waitList ∧ s.joinWaiters.waitList = [3, 0]) := by decide

/-! ### Hypotheses met: admission, write data and delivery -/

/-- What holds of every member of the slots holds of every live slot. -/
theorem live {s : State} {P : SlotIx → Slot → Prop} (h : ∀ j : SlotIx, ∀ y ∈ s.slot j, P j y) :
    ∀ j y, s.slot j = some y → P j y := h

theorem witness_RequestsArePresented :
    (State.reset.port 0).head = none ∧ (State.reset.port 0).waiting = none ∧ (State.reset.port 0).pclr = false ∧
      ((State.reset.setPort 0 { Port.empty with pclr := true }).port 0).head = none ∧
      ((State.reset.setPort 0 { Port.empty with pclr := true }).port 0).waiting = none ∧
      ((State.reset.setPort 0 { Port.empty with pclr := true }).port 0).pclr = true := by decide

/-- Each cause of a malformed request, and none, at the ends of the ranges; the decisions in both modes. -/
theorem witness_FormIsCheckedAndDecided :
    (State.reset.formCause 0 (request .read 0 0#24 0) = some .beats ∧ State.reset.formCause 0 (request .read 0 0#24 17) = some .beats) ∧
    (State.reset.formCause 0 (request .read 0 0xFFFFF0#24 16) = none ∧
      State.reset.formCause 0 (request .read 0 0xFFFFF1#24 16) = some .range) ∧
    (reading.formCause 1 (request .read 0 0#24 1) = some .tag ∧ reading.formCause 0 (request .read 0 0#24 1) = none) ∧
    State.reset.mode = .pass ∧ guarded.mode = .guarded ∧ guarded.formCause 0 (request .read 0 0#24 1) = none := by decide

/-- A window without rights for master 0, reading for master 1 and both for master 2. -/
def mixed : State := guarded.setWindow 2 { live := true, base := 0#24, last := 4999#24, rights := #v[.none, .read, .readWrite, .none] }

theorem witness_AccessIsDecided :
    mixed.matchWindow 5000#24 = none ∧ mixed.matchWindow 4999#24 = some 2 ∧ mixed.matchWindow 0#24 = some 2 ∧
      (mixed.window 2).last.toNat < (request .read 0 4999#24 2).address.toNat + (request .read 0 4999#24 2).beats.val - 1 ∧
      ¬(mixed.window 2).last.toNat < (request .read 0 4999#24 1).address.toNat + (request .read 0 4999#24 1).beats.val - 1 ∧
      (mixed.window 2).rights[(0 : Master)] = .none ∧ (mixed.window 2).rights[(1 : Master)] = .read ∧
      (mixed.window 2).rights[(2 : Master)] = .readWrite := by decide

/-- The hypotheses of AdmissionAllocatesASlot, for a state, a port, a request and a slot. -/
abbrev Admits (s : State) (p : Master) (r : Request) (k : SlotIx) : Prop :=
  (s.port p).head = some r ∧ s.resetPin = false ∧ (s.port p).pclr = false ∧ (s.conf p).standing ≠ .isolated ∧
    s.slot k = none ∧ (∀ j, j < k → s.slot j ≠ none) ∧ s.held p < (if (s.conf p).standing = .active then 4 else 1) ∧
    (∀ j y, s.slot j = some y → y.master = p → y.orphan = false → s.counter p + 1#8 ≠ y.admission) ∧
    (r.kind = .write → (s.port p).writeList.length < 4) ∧ s.need p r ≤ s.freeWords ∧
    (s.waitList = [] ∨ s.waitList.head? = some p)

/-- A write of a LIMITED master at the head of the wait list, its need the whole of what is free. -/
def lastWords : State :=
  { asking (limited 3 255) 3 (request .write 0 100#24 16) with freeWords := 16, waitList := [3, 1] }

/-- The hypotheses hold for each decision: allowed, UNMAPPED, DENIED and PROTOCOL, reads and writes, in both modes. -/
theorem witness_AdmissionAllocatesASlot :
    (Admits lastWords 3 (request .write 0 100#24 16) 0 ∧ lastWords.decideRequest 3 (request .write 0 100#24 16) = .allowed (some 2)) ∧
    (Admits (asking State.reset 0 (request .read 0 0#24 1)) 0 (request .read 0 0#24 1) 0) ∧
    (Admits (asking guarded 1 (request .read 1 5000#24 2)) 1 (request .read 1 5000#24 2) 0 ∧
      guarded.decideRequest 1 (request .read 1 5000#24 2) = .unmapped) ∧
    (Admits (asking mixed 0 (request .write 1 0#24 2)) 0 (request .write 1 0#24 2) 0 ∧
      mixed.decideRequest 0 (request .write 1 0#24 2) = .denied 2) ∧
    (Admits (asking guarded 1 (request .write 1 0#24 0)) 1 (request .write 1 0#24 0) 0 ∧
      guarded.decideRequest 1 (request .write 1 0#24 0) = .protocol .beats) := by
  refine ⟨⟨⟨by decide, by decide, by decide, by decide, by decide, by decide, by decide, live (by decide), by decide, by decide,
      by decide⟩, by decide⟩,
    ⟨by decide, by decide, by decide, by decide, by decide, by decide, by decide, live (by decide), by decide, by decide, by decide⟩,
    ⟨⟨by decide, by decide, by decide, by decide, by decide, by decide, by decide, live (by decide), by decide, by decide,
      by decide⟩, by decide⟩,
    ⟨⟨by decide, by decide, by decide, by decide, by decide, by decide, by decide, live (by decide), by decide, by decide,
      by decide⟩, by decide⟩,
    ⟨⟨by decide, by decide, by decide, by decide, by decide, by decide, by decide, live (by decide), by decide, by decide,
      by decide⟩, by decide⟩⟩

theorem witness_CutoffAnswersWithoutASlot :
    let r := request .write 0 0#24 0
    let s := asking (isolated 2 .quiet 255) 2 r
    (s.port 2).head = some r ∧ (s.conf 2).standing = .isolated ∧ s.resetPin = false ∧ (s.port 2).pclr = false ∧
      (s.port 2).offer = none ∧ (r.kind = .write → (s.port 2).writeList.length < 4) := by decide

/-- The slot that `filling` fills. -/
def fillingSlot : Slot := { slotOf 1 .filling .write 0 4 0 with progress := 3, timer := some 0 }

/-- The same slot two beats earlier. -/
def earlierSlot : Slot := { slotOf 1 .filling .write 0 4 0 with progress := 2, timer := some 0 }

theorem witness_BeatsFillTheirSlot :
    filling.resetPin = false ∧ (filling.port 1).pclr = false ∧ (filling.port 1).writeList = .fill 3 :: [] ∧
      filling.slot 3 = some fillingSlot ∧ fillingSlot.progress + 1 = fillingSlot.beats.val ∧ fillingSlot.outcome = none ∧
      filling.health.standing ≠ .failed ∧
      (filling.setSlot 3 (some earlierSlot)).slot 3 = some earlierSlot ∧ earlierSlot.progress + 1 < earlierSlot.beats.val ∧
      ((filling.setSlot 3 (some earlierSlot)).port 1).writeList = .fill 3 :: [] := by decide

theorem witness_WrongBurstsArePROTOCOL :
    filling.resetPin = false ∧ (filling.port 1).pclr = false ∧ (filling.port 1).writeList = .fill 3 :: [] ∧
      filling.slot 3 = some fillingSlot ∧ fillingSlot.progress + 1 = fillingSlot.beats.val ∧
      ((filling.setSlot 3 (some earlierSlot)).port 1).writeList = .fill 3 :: [] ∧
      (filling.setSlot 3 (some earlierSlot)).slot 3 = some earlierSlot ∧ earlierSlot.progress + 1 < earlierSlot.beats.val ∧
      ((guarded.setPort 1 { Port.empty with writeList := [.discard] }).port 1).writeList = .discard :: [] := by decide

/-- The slot that `delivering` delivers. -/
def deliveringSlot : Slot :=
  { slotOf 1 .delivering .read 0 2 0 with outcome := some .done, timer := some 0, words := [7#32, 8#32] }

theorem witness_StallsFreeTheSlot :
    filling.slot 3 = some fillingSlot ∧ fillingSlot.timer = some 0 ∧ fillingSlot.phase = .filling ∧
      delivering.slot 3 = some deliveringSlot ∧ deliveringSlot.timer = some 0 ∧ deliveringSlot.phase = .delivering := by decide

/-- A READY slot of master 1 beside a younger one, whose number has wrapped. -/
def twoReady : State :=
  (({ guarded with counters := #v[0#8, 1#8, 0#8, 0#8] }.setSlot 4
    (some { slotOf 1 .ready .read 0 2 255 with outcome := some .done })).setSlot 9
    (some { slotOf 1 .ready .read 1 2 0 with outcome := some .denied }))

theorem witness_OldestReadySlotDelivers :
    (deliveringSlot.kind = .read ∧ deliveringSlot.words.length = deliveringSlot.beats.val ∧ 1 < deliveringSlot.words.length) ∧
    let x : Slot := { slotOf 1 .ready .read 0 2 255 with outcome := some .done }
    (twoReady.slot 4 = some x ∧ x.master = 1 ∧ x.orphan = false ∧ x.phase = .ready ∧ x.outcome = some .done) ∧
    (∀ j y, twoReady.slot j = some y → y.master = 1 → y.orphan = false → y.phase ≠ .delivering) ∧
    (∀ j y, twoReady.slot j = some y → j ≠ 4 → y.master = 1 → y.orphan = false →
      (twoReady.counter 1 - y.admission).toNat < (twoReady.counter 1 - x.admission).toNat) := by
  exact ⟨by decide, by decide, live (by decide), live (by decide)⟩

theorem witness_TakesMoveTheResponse :
    let s := delivering
    let t := guarded.setPort 1 { Port.empty with offer := some ⟨0, .cutoff, none, true, false, false⟩ }
    (s.port 1).offer = some ⟨0, .done, some 7#32, false, false, false⟩ ∧ s.slot 3 = some deliveringSlot ∧
    deliveringSlot.master = 1 ∧ deliveringSlot.orphan = false ∧ deliveringSlot.phase = .delivering ∧
    deliveringSlot.outcome = some .done ∧
    (∀ j y, s.slot j = some y → y.master = 1 → y.orphan = false → y.phase = .delivering → j = 3) ∧
    ((s.setPort 1 { Port.empty with offer := some ⟨0, .done, some 8#32, true, false, false⟩ }).port 1).offer =
      some ⟨0, .done, some 8#32, true, false, false⟩ ∧
    ((s.setPort 1 { Port.empty with offer := some ⟨0, .done, none, true, true, false⟩ }).port 1).offer =
      some ⟨0, .done, none, true, true, false⟩ ∧
    (t.port 1).offer = some ⟨0, .cutoff, none, true, false, false⟩ ∧
    (∀ j y, t.slot j = some y → y.master = 1 → y.orphan = false → y.phase ≠ .delivering) := by
  exact ⟨by decide, by decide, by decide, by decide, by decide, by decide, live (by decide), by decide, by decide, by decide,
    live (by decide)⟩

theorem witness_PortClearDropsThePortsWork :
    (delivering.slot 3 = some deliveringSlot ∧ deliveringSlot.master = 1 ∧ deliveringSlot.phase ≠ .issued) ∧
    reading.slot 5 = some (slotOf 1 .issued .read 0 4 7) ∧ reading.slot 0 = none ∧
    ((delivering.port 1).pclr = false ∧ delivering.resetPin = false) ∧
    ({ delivering with resetPin := true }.port 1).pclr = false ∧
    (let s := { guarded with resetPin := true }.setPort 1 { Port.empty with pclr := true, waiting := some (request .read 0 0#24 1) }
     (s.port 1).pclr = true ∧ s.resetPin = true ∧ (s.port 1).waiting.isSome = true) ∧
    (((guarded.setPort 1 { Port.empty with pclr := true }).port 1).pclr = true ∧
      ((guarded.setPort 1 { Port.empty with pclr := true }).port 1).head = none) := by decide

/-! ### Hypotheses met: arbitration and the memory -/

/-- Two masters with a candidate each, one of them deferred. -/
def competing : State :=
  ((limited 0 200).setSlot 0 (some (slotOf 0 .queued .read 0 2 0))).setSlot 1 (some (slotOf 1 .queued .write 0 2 0))

theorem witness_ArbiterChoosesTheWinner :
    competing.candidate 0 = some 0 ∧ competing.candidate 2 = none ∧ competing.eligible 1 = true ∧ competing.eligible 0 = false ∧
      competing.winner = some 1 ∧ State.reset.winner = none := by decide

theorem witness_GrantIssuesTheWinner :
    competing.mem.state = .idle ∧ competing.countPhase .issued = 0 ∧ competing.winner = some 1 ∧
      competing.candidate 1 = some 1 ∧ competing.slot 1 = some (slotOf 1 .queued .write 0 2 0) := by decide

/-- The slot that `writing` writes. -/
def writingSlot : Slot := { slotOf 1 .issued .write 0 2 7 with words := [1#32, 2#32], enables := [15#4, 15#4] }

theorem witness_MemoryTakesIssueAndData :
    writing.mem.issueOffered = true ∧ writing.mem.state = .busy ∧ writing.issued = some (5, writingSlot) ∧
      writingSlot.kind = .write ∧ writing.mem.taken < writingSlot.beats.val ∧
      writing.mem.taken + 1 = writingSlot.beats.val := by decide

theorem witness_ReadBeatsFillAndComplete :
    reading.mem.state = .busy ∧ reading.issued = some (5, slotOf 1 .issued .read 0 4 7) ∧
      (slotOf 1 .issued .read 0 4 7).kind = .read ∧ reading.mem.received < (slotOf 1 .issued .read 0 4 7).beats.val ∧
      (slotOf 1 .issued .read 0 4 7).words.length = reading.mem.received ∧ (slotOf 1 .issued .read 0 4 7).outcome = none ∧
      (∀ n ∈ [3, 4], { reading with mem := { reading.mem with received := n } }.issued = some (5, slotOf 1 .issued .read 0 4 7)) := by
  decide

theorem witness_AcknowledgeCompletesTheWrite :
    writing.mem.state = .busy ∧ writing.issued = some (5, writingSlot) ∧ writingSlot.kind = .write ∧
      writing.mem.taken < writingSlot.beats.val ∧
      writingSlot.beats.val ≤ { writing with mem := { writing.mem with taken := 2 } }.mem.taken ∧
      { writing with mem := { writing.mem with taken := 2 } }.issued = some (5, writingSlot) := by decide

theorem witness_CompletionTakesItsSteps :
    reading.slot 5 = some (slotOf 1 .issued .read 0 4 7) ∧
      (slotOf 1 .issued .read 0 4 7).reserved = (slotOf 1 .issued .read 0 4 7).reserved := by decide

/-- The hypotheses of MemoryScoreFollowsTheClass, for a state, a class, a score, a standing and the state `v`. -/
abbrev Scores (s : State) (c : HealthClass) (n : Nat) (new : MemStanding) : Prop :=
  n = (match c with
    | .clean => s.health.score - 1
    | .corrected => min 255 (s.health.score + 1)
    | .faulted => min 255 (s.health.score + 16)
    | .timeout => min 255 (s.health.score + 32)) ∧
  (s.health.standing ≠ .failed → 192 ≤ n → new = .failed) ∧
  (s.health.standing = .sound → 96 ≤ n → n < 192 → new = .doubtful) ∧
  (s.health.standing = .sound → n < 96 → new = .sound) ∧
  (s.health.standing = .doubtful → 64 ≤ n → n < 192 → new = .doubtful) ∧
  (s.health.standing = .doubtful → n < 64 → new = .sound) ∧ (s.health.standing = .failed → new = .failed)

/-- A state with a memory score and standing. -/
def scored (n : Nat) (st : MemStanding) : State := { State.reset with health := ⟨n, st⟩ }

/-- Each standing at the ends of the ranges of R135; the state `v` is then the value that its equation gives. -/
theorem witness_MemoryScoreFollowsTheClass :
    Scores (scored 79 .sound) .faulted 95 .sound ∧ Scores (scored 80 .sound) .faulted 96 .doubtful ∧
    Scores (scored 159 .sound) .timeout 191 .doubtful ∧ Scores (scored 160 .sound) .timeout 192 .failed ∧
    Scores (scored 65 .doubtful) .clean 64 .doubtful ∧ Scores (scored 64 .doubtful) .clean 63 .sound ∧
    Scores (scored 190 .doubtful) .corrected 191 .doubtful ∧ Scores (scored 191 .doubtful) .corrected 192 .failed ∧
    Scores (scored 255 .failed) .timeout 255 .failed := by
  refine ⟨?_, ?_, ?_, ?_, ?_, ?_, ?_, ?_, ?_⟩ <;> decide

theorem witness_MemoryTimeoutAborts :
    reading.mem.state = .busy ∧ reading.mem.timer = some 0 ∧ reading.issued = some (5, slotOf 1 .issued .read 0 4 7) := by decide

/-- A DRAINING port. -/
def draining (hold : Bool) : State :=
  { guarded with mem := { MemPort.fresh with state := .draining, abort := true, timer := some 0, holdPending := hold } }

theorem witness_AbortEnds :
    (draining true).mem.state = .draining ∧ (draining true).mem.holdPending = true ∧ (draining true).mem.timer = some 0 ∧
      (draining false).mem.state = .draining ∧ (draining false).mem.holdPending = false := by decide

theorem witness_UnexpectedItemsAreDiscarded :
    State.reset.mem.state ≠ .busy ∧ State.reset.mem.state ≠ .draining ∧
      (writing.mem.state = .busy ∧ writing.issued = some (5, writingSlot) ∧ writingSlot.kind = .write) ∧
      (reading.issued = some (5, slotOf 1 .issued .read 0 4 7) ∧ (slotOf 1 .issued .read 0 4 7).kind = .read) := by decide

/-! ### Hypotheses met: the timebase, recovery and resets -/

/-- Master 1 at the QUIET count 255, whose request meets the tick with its CUTOFF event due. -/
def meeting : State := asking (isolated 1 .quiet 255) 1 (request .read 0 0#24 1)

/-- The same with an item untaken, behind which the request waits for its CUTOFF event. -/
def waitingBehind : State :=
  meeting.setPort 1 { meeting.port 1 with offer := some ⟨0, .cutoff, none, true, false, false⟩ }

/-- R95, first line: the tick taken first recovers the master, whose request no CUTOFF event answers; it is admitted. The CUTOFF
event taken first sets the count to 0, and the master stays ISOLATED. -/
theorem test_tick_meets_cutoff :
    let t := after meeting (.quietRecovery 1)
    (t.conf 1).standing = .active ∧ after t (.cutoffEvent 1) = t ∧ ((after t (.admissionEvent 1)).slot 0).isSome = true ∧
      ((after meeting (.cutoffEvent 1)).conf 1).count = 0 ∧
      ((after meeting (.cutoffEvent 1)).conf 1).standing = .isolated := by decide

/-- R89: a request that waits behind an untaken CUTOFF item sets the count to 0 at the tick. -/
theorem test_waiting_request_holds_the_count :
    ((after waitingBehind .tick).conf 1).count = 0 ∧ after waitingBehind (.quietRecovery 1) = waitingBehind := by decide

theorem witness_TicksCountDown :
    { State.reset with resetPin := true }.resetPin = true ∧ State.reset.resetPin = false ∧
      (∀ m : Master, (State.reset.conf m).count < 255) ∧ (∀ m : Master, ((isolated 1 .quiet 254).conf m).count < 255) ∧
      (let s := waitingBehind
       (s.conf 1).count = 255 ∧ (s.port 1).head = some (request .read 0 0#24 1) ∧ (s.port 1).offer ≠ none) ∧
      { State.reset with time := { State.reset.time with count := 14 } }.time.count + 1 < 2 ^ 4 ∧
      2 ^ 4 ≤ { State.reset with time := { State.reset.time with count := 15 } }.time.count + 1 := by decide

/-- Masters 1 and 2 ISOLATED in QUIET, each with the next tick to come. -/
def twoQuiet : State := (isolated 1 .quiet 255).setConf 2 ((isolated 1 .quiet 255).conf 1)

/-- One master due at a tick, and two; a tick that meets a CUTOFF event, of a read and of a write beside a last place in the list. -/
theorem witness_QuietCountRecovers :
    (let s := isolated 1 .quiet 255
     s.resetPin = false ∧ (s.conf 1).standing = .isolated ∧ (s.conf 1).recovery = .quiet ∧ 255 ≤ (s.conf 1).count ∧
       (s.port 1).head = none) ∧
    (twoQuiet.resetPin = false ∧ ∀ m ∈ [(1 : Master), 2], (twoQuiet.conf m).standing = .isolated ∧
      (twoQuiet.conf m).recovery = .quiet ∧ 255 ≤ (twoQuiet.conf m).count ∧ (twoQuiet.port m).head = none) ∧
    (meeting.resetPin = false ∧ (meeting.conf 1).standing = .isolated ∧ (meeting.conf 1).recovery = .quiet ∧
      255 ≤ (meeting.conf 1).count ∧ (meeting.port 1).head = some (request .read 0 0#24 1) ∧ (meeting.port 1).pclr = false ∧
      (meeting.port 1).offer = none) ∧
    (let s := meeting.setPort 1
       { Port.empty with cut := true, head := some (request .write 0 0#24 1), writeList := List.replicate 3 .discard }
     (s.conf 1).standing = .isolated ∧ 255 ≤ (s.conf 1).count ∧ (s.port 1).pclr = false ∧ (s.port 1).offer = none ∧
       (s.port 1).writeList.length < 4) := by decide

/-- Master 2 ISOLATED in WITNESS while a read of master 1 has one beat to come. -/
def witnessing (count : Nat) : State :=
  { reading.setConf 2 { Confinement.fresh with score := 256, standing := .isolated, recovery := .witness, count := count } with
    mem := { reading.mem with received := 3 } }

theorem witness_WitnessCountRecovers :
    ((witnessing 127).completesClean (.readBeat 0#32 0#2 true) = true ∧ ((witnessing 127).conf 2).standing = .isolated ∧
      ((witnessing 127).conf 2).recovery = .witness ∧ (witnessing 127).held 2 = 0 ∧ ((witnessing 127).conf 2).count = 127) ∧
    ((witnessing 126).completesClean (.readBeat 0#32 0#2 true) = true ∧ (witnessing 126).held 2 = 0 ∧
      ((witnessing 126).conf 2).recovery = .witness ∧ ((witnessing 126).conf 2).standing = .isolated ∧
      ((witnessing 126).conf 2).count < 127) := by decide

/-- PCLR is asserted at ports 1 and 2, with a request waiting at one, and requests wait and stand at ports 0 and 3. -/
def heldDown (reset : Bool) : State :=
  let asks := some (request .write 0 0#24 2)
  { ((({ guarded with resetPin := reset }.setPort 1 { Port.empty with pclr := true, waiting := asks }).setPort 2
      { Port.empty with pclr := true, head := asks, writeList := [.discard] }).setPort 3
      { Port.empty with head := asks, writeList := [.discard, .fill 2] }).setPort 0 { Port.empty with waiting := asks } with
    link := { State.reset.link with ssel := true } }

theorem witness_PowerAndPinResetsTakeTheirValues :
    (heldDown false).resetPin = false ∧ (heldDown true).resetPin = true ∧
      [1, 2].Nodup ∧ (∀ p : Master, p ∈ [(1 : Master), 2] ↔ ((heldDown true).port p).pclr = true) ∧
      (((heldDown true).port 0).pclr = false ∧ ((heldDown true).port 0).head = none) ∧
      (State.reset.resetPin = false ∧ ∀ p : Master, (State.reset.port p).pclr = false) := by decide

theorem witness_ServiceResetKeepsTheSettings :
    (reading.takesFrame .resetPart [0x3C#8, 0xC4#8] ∧ reading.mem.state = .busy) ∧
    ((draining true).takesFrame .resetPart [0x3C#8, 0xC4#8] ∧ (draining true).mem.state = .draining) ∧
    (State.reset.takesFrame .resetPart [0x3C#8, 0xC4#8] ∧ State.reset.mem.state ≠ .busy ∧ State.reset.mem.state ≠ .draining) := by
  decide

/-! ### Hypotheses met: rules of the whole machine and invariants -/

/-- Clause by clause, states in which a port's command is not due: at the full list, the last word, the slot limit, a timer of 1. -/
theorem witness_EveryCommandAnswersANextState :
    (crowded.port 3).head ≠ none ∧ (State.reset.port 0).head = none ∧
    ((lastWords.port 3).head = some (request .write 0 100#24 16) ∧
      { lastWords with freeWords := 15 }.freeWords < { lastWords with freeWords := 15 }.need 3 (request .write 0 100#24 16) ∧
      ({ lastWords with waitList := [1, 3] }.waitList ≠ [] ∧ { lastWords with waitList := [1, 3] }.waitList.head? ≠ some 3) ∧
      (lastWords.conf 3).standing ≠ .isolated ∧
      (let s := lastWords.setSlot 0 (some (slotOf 3 .ready .read 1 2 0))
       (s.conf 3).standing ≠ .active ∧ 1 ≤ allSlots.countP fun k => (s.slot k).any fun x => x.master == 3 && !x.orphan) ∧
      (let s := lastWords.setSlot 0 (some (slotOf 3 .ready .read 1 2 ((lastWords.counter 3) + 1#8)))
       s.slot 0 = some (slotOf 3 .ready .read 1 2 1) ∧ s.counter 3 + 1#8 = 1#8)) ∧
    4 ≤ ((lastWords.setPort 3 { lastWords.port 3 with writeList := List.replicate 4 .discard }).port 3).writeList.length ∧
    (State.reset.port 0).writeList = [] ∧ (State.reset.port 0).offer = none ∧
    ((State.reset.port 0).pclr = false ∧ (State.reset.setPort 0 { Port.empty with pclr := true } |>.port 0).pclr = true) ∧
    ((filling.setSlot 3 (some { fillingSlot with timer := some 1 })).slot 3 = some { fillingSlot with timer := some 1 } ∧
      ({ fillingSlot with timer := some 1 }).timer ≠ some 0 ∧
      ({ deliveringSlot with timer := some 1 }).timer ≠ some 0) ∧
    (delivering.slot 3 = some deliveringSlot ∧ deliveringSlot.phase = .delivering) := by decide

/-- The same for the memory port, the timebase and the link: a slot that is ready but not the oldest, an issue that is all taken, a
count of 254 and of 126, an ignored frame, a frame in progress of another code. -/
theorem witness_EveryCommandAnswersANextState_more :
    (let s := twoReady.setSlot 4 (some (slotOf 1 .queued .read 0 2 255))
     s.slot 9 = some { slotOf 1 .ready .read 1 2 0 with outcome := some .denied } ∧
       s.slot 4 = some (slotOf 1 .queued .read 0 2 255) ∧ (s.counter 1 - 0#8).toNat < (s.counter 1 - 255#8).toNat) ∧
    (∀ p ∈ [PortState.busy, .draining, .held, .failed], (portIn p).mem.state ≠ .idle) ∧
    (∀ p ∈ [PortState.idle, .draining, .held, .failed], (portIn p).mem.state ≠ .busy) ∧
    (∀ k : SlotIx, State.reset.slot k = none) ∧ State.reset.mem.issueOffered = false ∧
    (let s := { writing with mem := { writing.mem with taken := 2, timer := some 1 } }
     s.slot 5 = some writingSlot ∧ writingSlot.beats.val ≤ s.mem.taken ∧ s.mem.timer ≠ some 0) ∧
    (reading.slot 5 = some (slotOf 1 .issued .read 0 4 7) ∧ (slotOf 1 .issued .read 0 4 7).kind = .read) ∧
    { State.reset with resetPin := true }.resetPin = true ∧ ((isolated 1 .quiet 254).conf 1).count < 255 ∧
    ((waitingBehind.port 1).head = some (request .read 0 0#24 1) ∧ (waitingBehind.port 1).offer ≠ none) ∧
    ((witnessing 126).conf 2).count < 127 ∧ (witnessing 127).completesClean (.readBeat 0#32 0#2 false) = false ∧
    ((shifting none).link.ssel = true ∧ (shifting none).link.frame = none) ∧
    ((shifting (some ⟨[2#8], 1, []⟩)).link.frame = some ⟨[2#8], 1, []⟩ ∧ encodeFrame .readStatus = some [0x01#8, 0xFF#8] ∧
      [2#8] ≠ ([0x01#8, 0xFF#8].take 1).take 11) ∧
    (8 ≤ (List.replicate 8 true).length ∧ isCommandFrame [0x00#8] = false ∧ decodeFrame [0x01#8, 0xFF#8] [] ≠ none) ∧
    State.reset.resetPin = false ∧ State.reset.link.ssel = false := by decide

/-- A last beat takes the slot of `filling` from FILLING to QUEUED, and the slot keeps its identity. -/
theorem witness_SlotsKeepTheirIdentity :
    let t := after filling (.writeDataBeat 1 ⟨0#32, 15#4, true⟩)
    filling.FillsSound ∧ exec (.writeDataBeat 1 ⟨0#32, 15#4, true⟩) filling = .next t ∧ filling.slot 3 = some fillingSlot ∧
      (t.slot 3).map (·.phase) = some .queued := by
  exact ⟨by decide, rfl, by decide, by decide⟩

theorem witness_ManualRecoversByRestoreAlone :
    let s := isolated 2 .manual 0
    (2#8 : Byte).toNat = (2 : Master).val ∧ (s.conf 2).standing = .isolated ∧ (s.conf 2).recovery = .manual ∧
      (s.conf 2).count = 0 ∧ commandIsReset .tick = false ∧ Instr.tick ≠ .restore 2#8 ∧
      (∀ r, Instr.tick ≠ .setRecovery 2#8 r) ∧ exec .tick s = .next (after s .tick) ∧
      s.takesFrame (.restore 2#8) [0x24#8, 0x02#8, 0xDA#8] := by
  exact ⟨by decide, by decide, by decide, by decide, by decide, by decide, fun r h => (by cases h), rfl, by decide⟩

theorem witness_PassModeMovesNoScore :
    State.reset.mode = .pass ∧ commandIsReset .tick = false ∧
      (∀ b, Instr.tick ≠ .isolate b ∧ Instr.tick ≠ .restore b ∧ Instr.tick ≠ .clearScore b) ∧
      exec .tick State.reset = .next (after State.reset .tick) := by
  exact ⟨by decide, by decide, fun b => ⟨(fun h => by cases h), (fun h => by cases h), (fun h => by cases h)⟩, rfl⟩

theorem witness_RecordsAndFlagsStand :
    commandIsReset .popFault = false ∧ commandIsReset (.setMode 1#8) = false ∧ Instr.setMode 1#8 ≠ .popFault ∧
      (∀ b, Instr.setMode 1#8 ≠ .clearAlerts b) ∧
      exec (.setMode 1#8) State.reset = .next (after State.reset (.setMode 1#8)) ∧
      exec .popFault (withRecords [record]) = .next (after (withRecords [record]) .popFault) ∧
      (after State.reset (.setMode 1#8)).queue.records.length = 1 := by
  exact ⟨by decide, by decide, by decide, fun b h => (by cases h), rfl, rfl, by decide⟩

/-- A step from a state with every invariant: the state after reset with a command waiting. -/
theorem witness_StepKeepsTheInvariants :
    let s := { State.reset with pending := [Instr.tick] }
    s.ScoresAgree ∧ s.BufferAccounted ∧ s.LimitsKept ∧ s.QueueNumbered ∧ s.WaitListSound ∧ s.PortAgrees ∧ s.CountsBounded ∧
      s.SettingsInRange ∧ s.LinkSound ∧ s.WordsKept ∧ step s = .next (after State.reset .tick) := by
  exact ⟨by decide, by decide, by decide, by decide, by decide, by decide, by decide, by decide, by decide, by decide, rfl⟩

end Sys2Proof.Tests
end

section
/-! SUPPORT. The window table and the access decision (R44, R45): what the search for the matched window finds, and what the decision is
where the burst overruns the window and where it does not. -/

namespace Sys2Proof.Machine

/-! ### The matched window (R44) -/

/-- R44: a live entry whose base is at most the address and whose last is at least that address. -/
def Window.Contains (w : Window) (a : Addr) : Prop :=
  w.live = true ∧ w.base.toNat ≤ a.toNat ∧ a.toNat ≤ w.last.toNat

/-- The search for the matched window meets the entries in the order of their numbers. -/
theorem State.matchWindow_eq_find (s : State) (a : Addr) :
    s.matchWindow a = Fin.find? fun i =>
      (s.window i).live && decide ((s.window i).base.toNat ≤ a.toNat) && decide (a.toNat ≤ (s.window i).last.toNat) := by
  have order : allWindows = List.finRange 16 := by decide
  rw [State.matchWindow, order, Fin.find?_eq_find?_finRange]

theorem State.matchWindow_eq_some (s : State) (a : Addr) (i : WindowIx) :
    s.matchWindow a = some i ↔ (s.window i).Contains a ∧ ∀ j, j < i → ¬(s.window j).Contains a := by
  rw [s.matchWindow_eq_find, Fin.find?_eq_some_iff]
  simp [Window.Contains, and_assoc]

theorem State.matchWindow_eq_none (s : State) (a : Addr) :
    s.matchWindow a = none ↔ ∀ i, ¬(s.window i).Contains a := by
  rw [s.matchWindow_eq_find, Fin.find?_eq_none_iff]
  simp [Window.Contains]

/-! ### The access decision (R45) -/

/-- R45: what a right in a window allows a master to do. -/
def Right.permits : Right → Kind → Bool
  | .none, _ => false
  | .read, k => k == .read
  | .readWrite, _ => true

section
variable {s : State} {p : Master} {r : Request} {i : WindowIx}

theorem State.access_of_no_window (h : s.matchWindow r.address = none) : s.access p r = .unmapped := by
  simp [State.access, h]

/-- R45: the line on the end of the burst comes before the lines on the rights. -/
theorem State.access_of_overrun (h : s.matchWindow r.address = some i)
    (overrun : (s.window i).last.toNat < r.address.toNat + r.beats.val - 1) : s.access p r = .denied i := by
  simp [State.access, h, overrun]

/-- R45: a burst inside the window is decided by the master's right alone. -/
theorem State.access_of_fits (h : s.matchWindow r.address = some i)
    (fits : ¬(s.window i).last.toNat < r.address.toNat + r.beats.val - 1) :
    s.access p r = if (s.window i).rights[p].permits r.kind then .allowed (some i) else .denied i := by
  simp only [State.access, h, if_neg fits]
  cases (s.window i).rights[p] with
  | none => rfl
  | read => cases r.kind <;> rfl
  | readWrite => rfl

end

/-- Settles O26: the search of R44 in the order of the entries' numbers, and R45 by the end of the burst and then by the right. -/
theorem accessIsDecided : Obligations.AccessIsDecided := by
  intro s p r contains overruns
  refine ⟨s.matchWindow_eq_some r.address, s.matchWindow_eq_none r.address, State.access_of_no_window, fun i matched => ?_⟩
  have decided : ¬overruns i →
      s.access p r = if (s.window i).rights[p].permits r.kind then .allowed (some i) else .denied i :=
    State.access_of_fits matched
  refine ⟨State.access_of_overrun matched, ?none, ?readWrites, ?readReads, ?readWrite⟩
  case none => intro fits right; simp [decided fits, right, Right.permits]
  case readWrites => intro fits right kind; simp [decided fits, right, kind, Right.permits]
  case readReads => intro fits right kind; simp [decided fits, right, kind, Right.permits]
  case readWrite => intro fits right; simp [decided fits, right, Right.permits]

end Sys2Proof.Machine
end

section
/-! SUPPORT. The command event of a link command whose frame the link takes, the argument bytes of masters and recovery modes, and
the two commands that write confinement records (R75, R93). -/

namespace Sys2Proof.Machine

/-! ### The command event (R173) -/

/-- R173: a command event whose frame the link takes is answered with what its effect gives. -/
theorem State.command_of_takesFrame {s : State} {c : Instr} {f body : List Byte} {e : Effect} {result : Answer × State}
    (spelled : commandBytes c = some body) (takes : s.takesFrame c f) (acts : e s = result) :
    s.command body e = result.2.answered f result.1 := by
  obtain ⟨encoded, accepted⟩ := takes
  obtain rfl : withCheck body = f := by simpa [encodeFrame, spelled] using encoded
  rw [← acts, s.command_takes body e accepted]

@[simp] theorem ranged_none {α : Type} (e : α → Effect) (s : State) : ranged none e s = (plain .range, s) := rfl
@[simp] theorem ranged_some {α : Type} (a : α) (e : α → Effect) (s : State) : ranged (some a) e s = e a s := rfl

/-! ### Argument bytes (Table 13-2) -/

@[simp] theorem readMasterArg_eq_none {b : Byte} : readMasterArg b = none ↔ 4 ≤ b.toNat := by
  simp [readMasterArg]

@[simp] theorem readMasterArg_eq_some {b : Byte} {m : Master} : readMasterArg b = some m ↔ b.toNat = m.val := by
  have bound := m.isLt
  simp only [readMasterArg, Option.dite_none_right_eq_some, Option.some.injEq, Fin.ext_iff, exists_prop]
  omega

theorem readRecoveryArg_eq_none {r : Byte} (h : 3 ≤ r.toNat) : readRecoveryArg r = none := by
  have unlisted : r ≠ 0#8 ∧ r ≠ 1#8 ∧ r ≠ 2#8 := by refine ⟨?_, ?_, ?_⟩ <;> rintro rfl <;> simp at h
  obtain ⟨no0, no1, no2⟩ := unlisted
  simp [readRecoveryArg, no0, no1, no2]

@[simp] theorem readRecoveryArg_code (mode : RecoveryMode) : readRecoveryArg mode.code = some mode := by
  cases mode <;> rfl

/-! ### CLEAR SCORE by the standing of the master it names (R75) -/

section
variable {s : State} {m : Master}

theorem clearScoreEffect_active (h : (s.conf m).standing = .active) :
    clearScoreEffect m s = (plain .ok, s.setConf m { s.conf m with score := 0 }) := by
  simp [clearScoreEffect, h]

theorem clearScoreEffect_limited (h : (s.conf m).standing = .limited) :
    clearScoreEffect m s = (plain .ok,
      (((s.setConf m { s.conf m with score := 0, standing := .active, deferral := 0 }).hand
        (.standing m .limited .active .service 0 none)).raiseRecovery).joinWaiters) := by
  simp [clearScoreEffect, h]

theorem clearScoreEffect_isolated (h : (s.conf m).standing = .isolated) : clearScoreEffect m s = (plain .state, s) := by
  simp [clearScoreEffect, h]

end

/-! ### The two commands -/

/-- R93: SET RECOVERY with both arguments read. -/
theorem setRecovery_of_read {s : State} {b r : Byte} {f : List Byte} {result : Answer × State}
    (takes : s.takesFrame (.setRecovery b r) f)
    (acts : ranged (readMasterArg b) (fun m => ranged (readRecoveryArg r) fun mode s =>
      (plain .ok, s.setConf m { s.conf m with recovery := mode, count := 0 })) s = result) :
    exec (.setRecovery b r) s = .next (result.2.answered f result.1) :=
  congrArg Host.Outcome.next (State.command_of_takesFrame rfl takes acts)

/-- R75: CLEAR SCORE with its argument read. -/
theorem clearScore_of_read {s : State} {b : Byte} {f : List Byte} {result : Answer × State}
    (takes : s.takesFrame (.clearScore b) f) (acts : ranged (readMasterArg b) clearScoreEffect s = result) :
    exec (.clearScore b) s = .next (result.2.answered f result.1) :=
  congrArg Host.Outcome.next (State.command_of_takesFrame rfl takes acts)

/-- Settles O16: R173 line 7 by the argument bytes, and then R93, or R75 by the standing of the master named. -/
theorem recordCommandsAct : Obligations.RecordCommandsAct := by
  intro s b r f
  refine ⟨fun takes => ⟨fun outOfRange => ?recoveryRange, fun m mode named coded => ?recovery⟩,
    fun takes => ⟨fun outOfRange => ?scoreRange, fun m named => ?score⟩⟩
  case recoveryRange =>
    refine setRecovery_of_read takes (result := (plain .range, s)) ?_
    cases read : readMasterArg b with
    | none => rfl
    | some m =>
      have named : b.toNat = m.val := readMasterArg_eq_some.mp read
      rw [ranged_some, readRecoveryArg_eq_none (by omega), ranged_none]
  case recovery =>
    subst coded
    exact setRecovery_of_read takes (by rw [readMasterArg_eq_some.mpr named, readRecoveryArg_code, ranged_some, ranged_some])
  case scoreRange => exact clearScore_of_read takes (by rw [readMasterArg_eq_none.mpr outOfRange, ranged_none])
  case score =>
    have acts {result : Answer × State} (h : clearScoreEffect m s = result) :
        exec (.clearScore b) s = .next (result.2.answered f result.1) :=
      clearScore_of_read takes (by rw [readMasterArg_eq_some.mpr named, ranged_some, h])
    exact ⟨fun active => acts (clearScoreEffect_active active), fun limited => acts (clearScoreEffect_limited limited),
      fun isolated => acts (clearScoreEffect_isolated isolated)⟩

end Sys2Proof.Machine
end

section
/-! SUPPORT. What the shared operations leave of the confinement records: those that touch none of them, and those that touch the
wait-listed field alone (R60). -/

namespace Sys2Proof.Machine

/-! ### Operations that touch no confinement record -/

@[simp] theorem State.freeSlot_masters (s : State) (k : SlotIx) : (s.freeSlot k).masters = s.masters := by
  unfold State.freeSlot
  split <;> rfl

@[simp] theorem State.endSlot_masters (s : State) (k : SlotIx) (x : Slot) (r : Result) (corrected : Bool) :
    (s.endSlot k x r corrected).masters = s.masters := by
  obtain ⟨-, e⟩ | ⟨-, e⟩ := s.endSlot_cases k x r corrected <;> simp [e]

@[simp] theorem State.timeoutSlot_masters (s : State) (k : SlotIx) (x : Slot) : (s.timeoutSlot k x).masters = s.masters := by
  unfold State.timeoutSlot
  split <;> simp

@[simp] theorem State.storeBeat_masters (s : State) (k : SlotIx) (x : Slot) (w : Word) (status : BitVec 2) :
    (s.storeBeat k x w status).masters = s.masters := by
  obtain ⟨-, e⟩ | ⟨-, e⟩ := s.storeBeat_cases k x w status <;> simp [e]

@[simp] theorem State.leaveBusy_masters (s : State) : s.leaveBusy.masters = s.masters := by
  obtain ⟨-, e⟩ | ⟨-, -, e⟩ | ⟨-, -, e⟩ := s.leaveBusy_cases <;> simp [e]

@[simp] theorem State.timeoutPort_masters (s : State) : s.timeoutPort.masters = s.masters := by
  unfold State.timeoutPort
  split <;> rfl

@[simp] theorem State.memStandingChanged_masters (s : State) (old : MemStanding) (cause : MemoryCause) :
    (s.memStandingChanged old cause).masters = s.masters := by
  unfold State.memStandingChanged
  simp only
  split
  · exact s.hand_masters _
  · exact s.hand_masters _

/-- R134: a class changes the memory health block, the fault queue, the alerts and the QUEUED slots, but no confinement record. -/
@[simp] theorem State.scoreMemory_masters (s : State) (c : HealthClass) (record : Nat → Option RecordBody) :
    (s.scoreMemory c record).masters = s.masters := by
  simp only [State.scoreMemory]
  cases record (classScore c s.health.score) <;> split <;> simp

@[simp] theorem State.sclkFall_masters (s : State) : s.sclkFall.masters = s.masters := by rw [s.sclkFall_frame]

@[simp] theorem State.sample_masters (s : State) (b : Bool) : (s.sample b).masters = s.masters := by
  obtain ⟨f, -, -, -, e⟩ | ⟨-, e⟩ := s.sample_cases b <;> rw [e]

@[simp] theorem State.conf_mapBank (s : State) (f : Confinement → Confinement) (m : Master) :
    State.conf { s with masters := mapBank f s.masters } m = f (s.conf m) := by
  simp [State.conf]

/-! ### The wait-listed field (R60) -/

theorem State.leaveWaitList_conf (s : State) (p m : Master) :
    ∃ listed, (s.leaveWaitList p).conf m = { s.conf m with waitListed := listed } := by
  obtain rfl | other := eq_or_ne m p
  · exact ⟨false, s.setConf_conf_self m _⟩
  · exact ⟨(s.conf m).waitListed, s.setConf_conf_ne p _ other⟩

theorem State.joinWaitList_conf (s : State) (p m : Master) :
    ∃ listed, (s.joinWaitList p).conf m = { s.conf m with waitListed := listed } := by
  obtain rfl | other := eq_or_ne m p
  · exact ⟨true, s.setConf_conf_self m _⟩
  · exact ⟨(s.conf m).waitListed, s.setConf_conf_ne p _ other⟩

theorem State.joinOne_conf (s : State) (m : Master) :
    ∃ listed, s.joinOne.conf m = { s.conf m with waitListed := listed } := by
  obtain ⟨e, -⟩ | ⟨p, n, -, e⟩ := s.joinOne_cases <;> rw [e]
  · exact ⟨(s.conf m).waitListed, rfl⟩
  · exact State.joinWaitList_conf { s with draws := n } p m

/-- R30, R60: joining the wait list leaves everything of a confinement record but its wait-listed field. -/
theorem State.joinWaiters_conf (s : State) (m : Master) :
    ∃ listed, s.joinWaiters.conf m = { s.conf m with waitListed := listed } := by
  obtain ⟨w1, e1⟩ := s.joinOne_conf m
  obtain ⟨w2, e2⟩ := s.joinOne.joinOne_conf m
  obtain ⟨w3, e3⟩ := s.joinOne.joinOne.joinOne_conf m
  obtain ⟨w4, e4⟩ := s.joinOne.joinOne.joinOne.joinOne_conf m
  exact ⟨w4, by rw [State.joinWaiters, e4, e3, e2, e1]⟩

/-- R92: the record of a master after its recovery. -/
theorem State.recover_conf_self (s : State) (m : Master) (cause : StandingCause) :
    (s.recover m cause).conf m = { s.conf m with score := 0, standing := .active, count := 0, deferral := 0 } := by
  simp [State.recover]

theorem State.recover_conf_ne (s : State) {m n : Master} (cause : StandingCause) (h : n ≠ m) :
    (s.recover m cause).conf n = s.conf n := by
  simp [State.recover, State.setConf_conf_ne _ _ _ h]

end Sys2Proof.Machine
end

section
/-! SUPPORT. A master that is ISOLATED under MANUAL with count 0 (R91): every shared operation leaves it so but its own recovery,
and every command but RESTORE and SET RECOVERY naming it and a part reset (R97). -/

namespace Sys2Proof.Machine

/-- R91: the master is ISOLATED, its recovery mode is MANUAL and its count is 0. -/
def Confinement.ManuallyIsolated (c : Confinement) : Prop := c.standing = .isolated ∧ c.recovery = .manual ∧ c.count = 0

/-- R91, of master `m` in the state `s`. -/
def State.ManuallyIsolated (s : State) (m : Master) : Prop := (s.conf m).ManuallyIsolated

section
variable {s : State} {m : Master}

namespace State.ManuallyIsolated

theorem isolated (h : s.ManuallyIsolated m) : (s.conf m).standing = .isolated := h.1
theorem manual (h : s.ManuallyIsolated m) : (s.conf m).recovery = .manual := h.2.1
theorem count (h : s.ManuallyIsolated m) : (s.conf m).count = 0 := h.2.2

/-! ### Writes of the confinement records -/

theorem of_masters {t : State} (h : s.ManuallyIsolated m) (e : t.masters = s.masters) : t.ManuallyIsolated m := by
  rw [State.ManuallyIsolated, State.conf_congr e]
  exact h

theorem of_conf {t : State} (h : s.ManuallyIsolated m) (e : ∃ listed, t.conf m = { s.conf m with waitListed := listed }) :
    t.ManuallyIsolated m := by
  obtain ⟨listed, e⟩ := e
  rw [State.ManuallyIsolated, e]
  exact h

theorem setConf (h : s.ManuallyIsolated m) {n : Master} {c : Confinement} (hc : n = m → c.ManuallyIsolated) :
    (s.setConf n c).ManuallyIsolated m := by
  obtain rfl | other := eq_or_ne m n
  · rw [State.ManuallyIsolated, State.setConf_conf_self]
    exact hc rfl
  · rw [State.ManuallyIsolated, s.setConf_conf_ne n c other]
    exact h

theorem ne_of_standing (h : s.ManuallyIsolated m) {n : Master} (notIsolated : (s.conf n).standing ≠ .isolated) : n ≠ m := by
  rintro rfl
  exact notIsolated h.isolated

/-! ### Records, slots and the wait list -/

theorem hand (h : s.ManuallyIsolated m) (b : RecordBody) : (s.hand b).ManuallyIsolated m := h.of_masters (s.hand_masters b)

theorem freeSlot (h : s.ManuallyIsolated m) (k : SlotIx) : (s.freeSlot k).ManuallyIsolated m :=
  h.of_masters (s.freeSlot_masters k)

theorem leaveWaitList (h : s.ManuallyIsolated m) (p : Master) : (s.leaveWaitList p).ManuallyIsolated m :=
  h.of_conf (s.leaveWaitList_conf p m)

theorem joinWaiters (h : s.ManuallyIsolated m) : s.joinWaiters.ManuallyIsolated m := h.of_conf (s.joinWaiters_conf m)

/-! ### Scores, isolation and recovery -/

/-- An isolation event keeps the recovery mode and sets the count to 0 (R79), so it leaves even `m` itself as it is. -/
theorem isolateMaster (h : s.ManuallyIsolated m) (n : Master) (cause : StandingCause) :
    (s.isolateMaster n cause).ManuallyIsolated m := by
  have left : ((s.dropSlots n).leaveWaitList n).ManuallyIsolated m := leaveWaitList (s := s.dropSlots n) h n
  exact hand (setConf (s := ((s.dropSlots n).leaveWaitList n).setPort n _) left
    (by rintro rfl; exact ⟨rfl, left.manual, rfl⟩)) _

/-- R66: the score of an ISOLATED master does not change. -/
theorem writeScore (h : s.ManuallyIsolated m) (n : Master) (score : Nat) : (s.writeScore n score).ManuallyIsolated m := by
  by_cases isolated : (s.conf n).standing = .isolated
  · simpa only [State.writeScore, isolated] using h
  have written (c : Confinement) : (s.setConf n c).ManuallyIsolated m := h.setConf fun e => absurd e (h.ne_of_standing isolated)
  unfold State.writeScore
  simp only
  split
  · exact (written _).hand _
  · exact (written _).hand _
  · exact h.isolateMaster n _
  · exact h.isolateMaster n _
  · exact written _
  · exact written _
  · exact h

theorem fault (h : s.ManuallyIsolated m) (n : Master) (w : Nat) (record : Nat → RecordBody) :
    (s.fault n w record).ManuallyIsolated m := by
  unfold State.fault
  simp only
  split
  · exact (h.hand _).writeScore n _
  · exact h.hand _

theorem cleanCompletion (h : s.ManuallyIsolated m) (n : Master) : (s.cleanCompletion n).ManuallyIsolated m := by
  unfold State.cleanCompletion
  split
  · exact h.writeScore n _
  · exact h.writeScore n _
  · exact h
  · exact h

theorem recover (h : s.ManuallyIsolated m) {n : Master} (other : n ≠ m) (cause : StandingCause) :
    (s.recover n cause).ManuallyIsolated m := by
  rw [State.ManuallyIsolated, s.recover_conf_ne cause other.symm]
  exact h

/-- R91: a recovery by count is of a master under QUIET or WITNESS. -/
theorem ne_of_mem_recovered (h : s.ManuallyIsolated m) {mode : RecoveryMode} (byCount : mode ≠ .manual) {target : Nat}
    {n : Master} (due : n ∈ s.recovered mode target) : n ≠ m := by
  rintro rfl
  have recovering : (s.conf n).recovery = mode := by
    simp only [State.recovered, Confinement.recovering, List.mem_filter, Bool.and_eq_true, beq_iff_eq] at due
    exact due.2.1.2
  exact byCount (recovering.symm.trans h.manual)

theorem recoverAll (h : s.ManuallyIsolated m) {due : List Master} (others : ∀ n ∈ due, n ≠ m) (cause : StandingCause)
    (fuel : Nat) : (inFreeOrder (fun s n => s.recover n cause) fuel due s).ManuallyIsolated m :=
  inFreeOrder_keeps (State.ManuallyIsolated · m) _ fuel due s h (fun _ _ kept => kept)
    fun _ n hn kept => kept.recover (others n hn) cause

/-- R90: a clean completion counts for the masters in WITNESS alone. -/
theorem witness (h : s.ManuallyIsolated m) : s.witness.ManuallyIsolated m := by
  have counted : State.ManuallyIsolated { s with masters := mapBank witnessCount s.masters } m := by
    have unmoved : witnessCount (s.conf m) = s.conf m := by simp [witnessCount, Confinement.recovering, h.manual]
    rw [State.ManuallyIsolated, State.conf_mapBank, unmoved]
    exact h
  exact counted.recoverAll (fun n => counted.ne_of_mem_recovered (by decide)) _ _

/-- R40: a port clear leaves the standing block alone, but for the wait-listed field. -/
theorem portClear (h : s.ManuallyIsolated m) (p : Master) : (s.portClear p).ManuallyIsolated m :=
  hand (s := ((s.dropSlots p).leaveWaitList p).setPort p _) (leaveWaitList (s := s.dropSlots p) h p) _

/-! ### The memory -/

theorem deferAt (h : s.ManuallyIsolated m) (w : Master) : (s.deferAt w).ManuallyIsolated m := by
  refine List.foldlRecOn (motive := (State.ManuallyIsolated · m)) allMasters _ h fun u kept n _ => ?_
  have written (d : Nat) : (u.setConf n { u.conf n with deferral := d }).ManuallyIsolated m :=
    kept.setConf (by rintro rfl; exact kept)
  simp only
  split
  · split
    · exact written _
    · exact kept
    · exact kept
  · exact written _

theorem completion (h : s.ManuallyIsolated m) (k : SlotIx) (x : Slot) (r : Result) (corrected : Bool) (c : HealthClass)
    (record : Nat → Option RecordBody) : (s.completion k x r corrected c record).ManuallyIsolated m := by
  have scored : ((s.endSlot k x r corrected).scoreMemory c record).ManuallyIsolated m := h.of_masters (by simp)
  unfold State.completion
  simp only
  split
  · exact ((scored.cleanCompletion _).witness.of_masters (State.leaveBusy_masters _)).joinWaiters
  · exact (scored.of_masters (State.leaveBusy_masters _)).joinWaiters

theorem readBeatArrives (h : s.ManuallyIsolated m) (word : Word) (status : BitVec 2) (last : Bool) :
    (s.readBeatArrives word status last).ManuallyIsolated m := by
  unfold State.readBeatArrives
  split
  · rename_i k x _ _
    have stored : (s.storeBeat k x word status).ManuallyIsolated m := h.of_masters (s.storeBeat_masters k x word status)
    split
    · exact h
    · simp only
      split
      · split
        · exact stored.completion ..
        · exact stored
      · exact stored
  · exact h

theorem writeAckArrives (h : s.ManuallyIsolated m) (ok : Bool) : (s.writeAckArrives ok).ManuallyIsolated m := by
  unfold State.writeAckArrives
  split
  · split
    · exact h
    · exact h.completion ..
  · exact h

theorem itemArrives (h : s.ManuallyIsolated m) (item : MemoryItem) : (s.itemArrives item).ManuallyIsolated m := by
  cases item with
  | readBeat word status last => exact h.readBeatArrives word status last
  | writeAck ok => exact h.writeAckArrives ok

/-! ### The timebase -/

/-- R89: a tick counts for the masters in QUIET alone. -/
theorem countQuiet (h : s.ManuallyIsolated m) (first : Option Master) : (s.countQuiet first).ManuallyIsolated m := by
  have all : ∀ n : Master, n ∈ allMasters := by decide
  obtain ⟨silent, counts, -⟩ := State.countOne_fold first allMasters (by decide) s
  have unmoved : quietCount (silent m) (s.conf m) = s.conf m := by simp [quietCount, Confinement.recovering, h.manual]
  rw [State.ManuallyIsolated, State.countQuiet, counts m (all m), unmoved]
  exact h

theorem recoverQuiet (h : s.ManuallyIsolated m) : s.recoverQuiet.ManuallyIsolated m := by
  unfold State.recoverQuiet
  split
  · exact h
  · exact (h.recoverAll (fun n => h.ne_of_mem_recovered (by decide)) _ _).joinWaiters

theorem giveTick (h : s.ManuallyIsolated m) (first : Option Master) : (s.giveTick first).ManuallyIsolated m :=
  (countQuiet (s := { s with
    time := { s.time with count := 0 }
    slots := mapBank tickSlot s.slots
    mem := { s.mem with timer := s.mem.timer.map (· - 1) } }) h first).recoverQuiet

theorem tclkEdge (h : s.ManuallyIsolated m) : s.tclkEdge.ManuallyIsolated m := by
  obtain ⟨-, e⟩ | ⟨-, e⟩ := s.tclkEdge_cases <;> rw [e]
  · exact h
  · exact h.giveTick none

/-! ### Ports and the release of RESET -/

theorem allocate (h : s.ManuallyIsolated m) (p : Master) (k : SlotIx) (r : Request) : (s.allocate p k r).ManuallyIsolated m :=
  leaveWaitList h p

theorem handOver (h : s.ManuallyIsolated m) (p : Master) (r : Request) (d : Decision) : (s.handOver p r d).ManuallyIsolated m := by
  cases d with
  | protocol c => exact h.fault ..
  | denied w => exact h.fault ..
  | unmapped => exact h.fault ..
  | allowed w => exact h

theorem fillBeat (h : s.ManuallyIsolated m) (p : Master) (k : SlotIx) (x : Slot) (rest : List ListEntry) (b : DataBeat) :
    (s.fillBeat p k x rest b).ManuallyIsolated m := by
  have written (y : Option Slot) (l : List ListEntry) : ((s.setSlot k y).setWriteList p l).ManuallyIsolated m := h
  unfold State.fillBeat
  simp only
  split
  · split
    · exact (written _ _).fault ..
    · exact h
  · split
    · exact written _ _
    · exact (written _ _).fault ..

theorem goOn (h : s.ManuallyIsolated m) : s.goOn.ManuallyIsolated m :=
  joinWaiters (inFreeOrder_keeps (State.ManuallyIsolated · m) _ _ _ _ h (fun _ _ kept => kept) fun _ p _ kept => kept.portClear p)

/-! ### Commands of the link -/

theorem command (h : s.ManuallyIsolated m) (body : List Byte) {e : Effect} (acts : (e s).2.ManuallyIsolated m) :
    (s.command body e).ManuallyIsolated m := by
  unfold State.command
  split
  · exact acts
  · exact h

theorem after_ranged {α : Type} (h : s.ManuallyIsolated m) {arg : Option α} {e : α → Effect}
    (acts : ∀ a, arg = some a → (e a s).2.ManuallyIsolated m) : (ranged arg e s).2.ManuallyIsolated m := by
  cases read : arg with
  | none => exact h
  | some a => exact acts a read

end State.ManuallyIsolated

/-! ### The commands -/

/-- The master is ISOLATED under MANUAL with count 0 in the next state that an outcome gives. -/
def ManuallyIsolatedAfter (m : Master) (o : Host.Outcome State Fault Refusal) : Prop :=
  ∀ t, o = .next t → t.ManuallyIsolated m

namespace State.ManuallyIsolated

theorem after_next (h : s.ManuallyIsolated m) : ManuallyIsolatedAfter m (.next s) := by
  intro t e
  obtain rfl : s = t := by simpa using e
  exact h

/-! At the master ports. -/

theorem after_requestPresentation (h : s.ManuallyIsolated m) (p : Master) (r : Request) :
    ManuallyIsolatedAfter m (execRequestPresentation p r s) := by
  unfold execRequestPresentation
  split
  · exact h.after_next
  · split
    · exact after_next h
    · exact (joinWaiters (s := s.setPort p _) h).after_next

theorem after_admissionEvent (h : s.ManuallyIsolated m) (p : Master) : ManuallyIsolatedAfter m (execAdmissionEvent p s) := by
  unfold execAdmissionEvent
  split
  · exact ((h.allocate ..).handOver ..).joinWaiters.after_next
  · exact h.after_next

/-- R38, R91: a CUTOFF event sets the count to 0 in QUIET alone, and in MANUAL it is 0 as it stands. -/
theorem after_cutoffEvent (h : s.ManuallyIsolated m) (p : Master) : ManuallyIsolatedAfter m (execCutoffEvent p s) := by
  unfold execCutoffEvent
  split
  · exact h.after_next
  · refine (setConf (s := s.setPort p _) h ?_).after_next
    rintro rfl
    exact ⟨h.isolated, h.manual, by simp [h.manual, h.count]⟩

theorem after_writeDataBeat (h : s.ManuallyIsolated m) (p : Master) (b : DataBeat) :
    ManuallyIsolatedAfter m (execWriteDataBeat p b s) := by
  unfold execWriteDataBeat
  split
  · exact h.after_next
  · split
    · exact h.after_next
    · split
      · exact (joinWaiters (s := s.setWriteList p _) h).after_next
      · exact h.joinWaiters.after_next
    · split
      · exact h.after_next
      · exact (h.fillBeat ..).joinWaiters.after_next

theorem after_fillingStall (h : s.ManuallyIsolated m) (k : SlotIx) : ManuallyIsolatedAfter m (execFillingStall k s) := by
  unfold execFillingStall
  split
  · exact h.after_next
  · rename_i x _
    split
    · exact (fault (s := (s.freeSlot k).setWriteList x.master _) (h.freeSlot k) ..).joinWaiters.after_next
    · exact h.after_next

theorem after_enterDelivering (h : s.ManuallyIsolated m) (p : Master) : ManuallyIsolatedAfter m (execEnterDelivering p s) := by
  unfold execEnterDelivering
  split
  · exact h.after_next
  · simp only
    split
    · exact after_next h
    · exact after_next h

theorem after_responseItemTake (h : s.ManuallyIsolated m) (p : Master) : ManuallyIsolatedAfter m (execResponseItemTake p s) := by
  unfold execResponseItemTake
  split
  · exact h.after_next
  · split
    · split
      · exact after_next h
      · rename_i k _
        split
        · exact after_next h
        · split
          · exact (joinWaiters (s := (s.freeSlot k).setPort p _) (h.freeSlot k)).after_next
          · exact after_next h
    · exact after_next h

theorem after_deliveringStall (h : s.ManuallyIsolated m) (k : SlotIx) : ManuallyIsolatedAfter m (execDeliveringStall k s) := by
  unfold execDeliveringStall
  split
  · exact h.after_next
  · rename_i x _
    split
    · exact (fault (s := (s.freeSlot k).setPort x.master _) (h.freeSlot k) ..).joinWaiters.after_next
    · exact h.after_next

theorem after_pclrAssertion (h : s.ManuallyIsolated m) (p : Master) : ManuallyIsolatedAfter m (execPclrAssertion p s) := by
  unfold execPclrAssertion
  split
  · exact h.after_next
  · simp only
    split
    · exact after_next h
    · exact (portClear (s := s.setPort p _) h p).joinWaiters.after_next

theorem after_pclrRelease (h : s.ManuallyIsolated m) (p : Master) : ManuallyIsolatedAfter m (execPclrRelease p s) := by
  unfold execPclrRelease
  split
  · simp only
    split
    · exact after_next h
    · exact (joinWaiters (s := (s.setPort p _).setPort p _) h).after_next
  · exact h.after_next

/-! At the memory. -/

theorem after_grant (h : s.ManuallyIsolated m) : ManuallyIsolatedAfter m (execGrant s) := by
  unfold execGrant
  split
  · rename_i w _ _
    split
    · exact h.after_next
    · rename_i k _
      split
      · exact h.after_next
      · rename_i x _
        have granted : ((s.issue k x).deferAt w).ManuallyIsolated m := deferAt (s := s.issue k x) h w
        exact after_next granted
  · exact h.after_next

theorem after_writeDataTake (h : s.ManuallyIsolated m) : ManuallyIsolatedAfter m (execWriteDataTake s) := by
  unfold execWriteDataTake
  split
  · exact after_next h
  · exact h.after_next

theorem after_memoryTimeout (h : s.ManuallyIsolated m) : ManuallyIsolatedAfter m (execMemoryTimeout s) := by
  unfold execMemoryTimeout
  split
  · exact (h.of_masters (by simp)).joinWaiters.after_next
  · exact h.after_next

theorem after_abortAcknowledge (h : s.ManuallyIsolated m) : ManuallyIsolatedAfter m (execAbortAcknowledge s) := by
  unfold execAbortAcknowledge
  split
  · split
    · exact after_next h
    · exact after_next h
  all_goals exact h.after_next

theorem after_abortTimeout (h : s.ManuallyIsolated m) : ManuallyIsolatedAfter m (execAbortTimeout s) := by
  unfold execAbortTimeout
  split
  · exact (h.of_masters (by simp)).after_next
  · exact h.after_next

/-! At the timebase and the RESET input. -/

theorem after_tick (h : s.ManuallyIsolated m) : ManuallyIsolatedAfter m (execTick s) := by
  unfold execTick
  split
  · exact h.after_next
  · exact (h.giveTick none).after_next

theorem after_tclkEdge (h : s.ManuallyIsolated m) : ManuallyIsolatedAfter m (execTclkEdge s) := by
  unfold execTclkEdge
  split
  · exact h.after_next
  · exact h.tclkEdge.after_next

theorem after_quietRecovery (h : s.ManuallyIsolated m) (n : Master) : ManuallyIsolatedAfter m (execQuietRecovery n s) := by
  unfold execQuietRecovery
  split
  · exact (h.giveTick (some n)).after_next
  · exact h.after_next

theorem after_witnessRecovery (h : s.ManuallyIsolated m) (n : Master) (item : MemoryItem) :
    ManuallyIsolatedAfter m (execWitnessRecovery n item s) := by
  unfold execWitnessRecovery
  split
  · exact (h.itemArrives item).after_next
  · exact h.after_next

theorem after_resetRelease (h : s.ManuallyIsolated m) : ManuallyIsolatedAfter m (execResetRelease s) := by
  unfold execResetRelease
  split
  · exact (goOn (s := { s with resetPin := false }) h).after_next
  · exact h.after_next

/-! At the lines of the link. -/

theorem after_commandFrameBegin (h : s.ManuallyIsolated m) (code : Byte) :
    ManuallyIsolatedAfter m (execCommandFrameBegin code s) := by
  unfold execCommandFrameBegin
  split
  · exact after_next h
  · exact h.after_next

theorem after_readAnswerFrame (h : s.ManuallyIsolated m) (dummies : List Byte) (tail : List Bool) :
    ManuallyIsolatedAfter m (execReadAnswerFrame dummies tail s) := by
  unfold execReadAnswerFrame
  split
  · exact after_next h
  · exact h.after_next

theorem after_unknownCodeFrame (h : s.ManuallyIsolated m) (bytes : List Byte) (tail : List Bool) :
    ManuallyIsolatedAfter m (execUnknownCodeFrame bytes tail s) := by
  unfold execUnknownCodeFrame
  split
  · split
    · exact after_next h
    · exact after_next h
    · exact h.after_next
  · exact h.after_next

theorem after_sselAssertion (h : s.ManuallyIsolated m) : ManuallyIsolatedAfter m (execSselAssertion s) := by
  unfold execSselAssertion
  split
  · exact h.after_next
  · split
    · exact after_next h
    · exact after_next h

theorem after_sclkRisingEdge (h : s.ManuallyIsolated m) (sdin : Bool) :
    ManuallyIsolatedAfter m (execSclkRisingEdge sdin s) :=
  (h.of_masters (by simp)).after_next

theorem after_ignoredFrameEnd (h : s.ManuallyIsolated m) : ManuallyIsolatedAfter m (execIgnoredFrameEnd s) := by
  unfold execIgnoredFrameEnd
  split
  · exact after_next h
  · exact h.after_next

/-! Commands of the link. -/

/-- R173: a command of the link whose frame the link does not take leaves the state, so only its effect matters. -/
theorem after_command (h : s.ManuallyIsolated m) (body : List Byte) {e : Effect} (acts : (e s).2.ManuallyIsolated m) :
    ManuallyIsolatedAfter m (.next (s.command body e)) :=
  (h.command body acts).after_next

theorem after_peekEffect (h : s.ManuallyIsolated m) : (peekEffect s).2.ManuallyIsolated m := by
  unfold peekEffect
  split
  · exact h
  · exact h

theorem after_popEffect (h : s.ManuallyIsolated m) : (popEffect s).2.ManuallyIsolated m := by
  unfold popEffect
  split
  · exact h
  · simp only
    split
    · exact h
    · exact h

theorem after_setModeEffect (h : s.ManuallyIsolated m) (mode : Mode) : (setModeEffect mode s).2.ManuallyIsolated m := by
  unfold setModeEffect
  simp only
  split
  · exact h
  · exact hand (s := { s with mode := mode }) h _

/-- R93: SET RECOVERY for another master. -/
theorem after_setRecovery (h : s.ManuallyIsolated m) {b r : Byte} (other : b.toNat ≠ m.val) :
    ManuallyIsolatedAfter m (execSetRecovery b r s) := by
  refine h.after_command _ (h.after_ranged fun n named => h.after_ranged fun mode _ => h.setConf ?_)
  rintro rfl
  exact absurd (readMasterArg_eq_some.mp named) other

/-- R75: CLEAR SCORE is refused for an ISOLATED master. -/
theorem after_clearScoreEffect (h : s.ManuallyIsolated m) (n : Master) : (clearScoreEffect n s).2.ManuallyIsolated m := by
  have written (notIsolated : (s.conf n).standing ≠ .isolated) (c : Confinement) : (s.setConf n c).ManuallyIsolated m :=
    h.setConf fun e => absurd e (h.ne_of_standing notIsolated)
  cases standing : (s.conf n).standing with
  | active =>
    rw [clearScoreEffect_active standing]
    exact written (by simp [standing]) _
  | limited =>
    rw [clearScoreEffect_limited standing]
    exact joinWaiters (hand (written (by simp [standing]) _) _)
  | isolated =>
    rw [clearScoreEffect_isolated standing]
    exact h

theorem after_isolateEffect (h : s.ManuallyIsolated m) (n : Master) : (isolateEffect n s).2.ManuallyIsolated m := by
  unfold isolateEffect
  split
  · exact (h.isolateMaster n _).joinWaiters
  · exact (h.isolateMaster n _).joinWaiters
  · exact h

theorem after_restoreEffect (h : s.ManuallyIsolated m) {n : Master} (other : n ≠ m) :
    (restoreEffect n s).2.ManuallyIsolated m := by
  unfold restoreEffect
  split
  · exact h
  · exact h
  · exact (h.recover other _).joinWaiters

/-- R94: RESTORE for another master. -/
theorem after_restore (h : s.ManuallyIsolated m) {b : Byte} (other : b.toNat ≠ m.val) :
    ManuallyIsolatedAfter m (execRestore b s) := by
  refine h.after_command _ (h.after_ranged fun n named => h.after_restoreEffect ?_)
  rintro rfl
  exact other (readMasterArg_eq_some.mp named)

theorem after_holdEffect (h : s.ManuallyIsolated m) : (holdEffect s).2.ManuallyIsolated m := by
  unfold holdEffect
  split <;> exact h

theorem after_releaseEffect (h : s.ManuallyIsolated m) : (releaseEffect s).2.ManuallyIsolated m := by
  unfold releaseEffect
  split <;> exact h

theorem after_restoreMemoryEffect (h : s.ManuallyIsolated m) : (restoreMemoryEffect s).2.ManuallyIsolated m := by
  unfold restoreMemoryEffect
  simp only
  split
  · exact h
  · exact h.of_masters (State.memStandingChanged_masters _ _ _)

/-- R91: every command leaves the master as it is, but a part reset (R97) and a RESTORE or SET RECOVERY naming it. -/
theorem after_exec (h : s.ManuallyIsolated m) (c : Instr) (noReset : commandIsReset c = false)
    (noRestore : ∀ b, c = .restore b → b.toNat ≠ m.val) (noRecovery : ∀ b r, c = .setRecovery b r → b.toNat ≠ m.val) :
    ManuallyIsolatedAfter m (exec c s) := by
  cases c with
  | requestPresentation p r => exact h.after_requestPresentation p r
  | admissionEvent p => exact h.after_admissionEvent p
  | cutoffEvent p => exact h.after_cutoffEvent p
  | writeDataBeat p b => exact h.after_writeDataBeat p b
  | fillingStall k => exact h.after_fillingStall k
  | enterDelivering p => exact h.after_enterDelivering p
  | responseItemTake p => exact h.after_responseItemTake p
  | deliveringStall k => exact h.after_deliveringStall k
  | pclrAssertion p => exact h.after_pclrAssertion p
  | pclrRelease p => exact h.after_pclrRelease p
  | grant => exact h.after_grant
  | issueTake => exact after_next h
  | writeDataTake => exact h.after_writeDataTake
  | readBeat word status last => exact (h.readBeatArrives word status last).after_next
  | writeAcknowledge ok => exact (h.writeAckArrives ok).after_next
  | memoryTimeout => exact h.after_memoryTimeout
  | abortAcknowledge => exact h.after_abortAcknowledge
  | abortTimeout => exact h.after_abortTimeout
  | tick => exact h.after_tick
  | quietRecovery n => exact h.after_quietRecovery n
  | witnessRecovery n item => exact h.after_witnessRecovery n item
  | commandFrameBegin code => exact h.after_commandFrameBegin code
  | readAnswerFrame dummies tail => exact h.after_readAnswerFrame dummies tail
  | unknownCodeFrame bytes tail => exact h.after_unknownCodeFrame bytes tail
  | readStatus => exact h.after_command _ h
  | setMode mode => exact h.after_command _ (h.after_ranged fun mode _ => h.after_setModeEffect mode)
  | readMaster b => exact h.after_command _ (h.after_ranged fun _ _ => h)
  | setRecovery b r => exact h.after_setRecovery (noRecovery b r rfl)
  | clearScore b => exact h.after_command _ (h.after_ranged fun n _ => h.after_clearScoreEffect n)
  | isolate b => exact h.after_command _ (h.after_ranged fun n _ => h.after_isolateEffect n)
  | restore b => exact h.after_restore (noRestore b rfl)
  | writeWindow index live base last rights => exact h.after_command _ (h.after_ranged fun _ _ => h)
  | readWindow index => exact h.after_command _ (h.after_ranged fun _ _ => h)
  | setFill fill => exact h.after_command _ h
  | setTiming divider masterTimeout memoryTimeout => exact h.after_command _ (h.after_ranged fun _ _ => h)
  | setDeferral d => exact h.after_command _ (h.after_ranged fun _ _ => h)
  | readSettings => exact h.after_command _ h
  | holdMemory => exact h.after_command _ h.after_holdEffect
  | releaseMemory => exact h.after_command _ h.after_releaseEffect
  | restoreMemory => exact h.after_command _ h.after_restoreMemoryEffect
  | peekFault => exact h.after_command _ h.after_peekEffect
  | popFault => exact h.after_command _ h.after_popEffect
  | setRecordMask mask => exact h.after_command _ (h.after_ranged fun _ _ => h)
  | readAlerts => exact h.after_command _ h
  | clearAlerts flags => exact h.after_command _ (h.after_ranged fun _ _ => h)
  | setAlertEnables enables => exact h.after_command _ (h.after_ranged fun _ _ => h)
  | readSlot index => exact h.after_command _ (h.after_ranged fun _ _ => h)
  | resetPart => simp [commandIsReset] at noReset
  | powerOnReset => simp [commandIsReset] at noReset
  | resetAssertion => simp [commandIsReset] at noReset
  | resetRelease => exact h.after_resetRelease
  | sselAssertion => exact h.after_sselAssertion
  | sclkRisingEdge sdin => exact h.after_sclkRisingEdge sdin
  | ignoredFrameEnd => exact h.after_ignoredFrameEnd
  | tclkEdge => exact h.after_tclkEdge

end State.ManuallyIsolated

/-! ### What READ MASTER reports, and RESTORE -/

/-- R77: READ MASTER reports the count of a master in MANUAL as 0. -/
theorem State.masterData_count_of_manual (manual : (s.conf m).recovery = .manual) :
    ((s.masterData m).drop 4).take 2 = [0x00#8, 0x00#8] := by
  simp [State.masterData, Confinement.reportedCount, manual, numHalf, halfBytes]

theorem State.answered_conf (u : State) (f : List Byte) (a : Answer) (n : Master) : (u.answered f a).conf n = u.conf n := rfl

theorem restoreEffect_isolated (h : (s.conf m).standing = .isolated) :
    restoreEffect m s = (plain .ok, (s.recover m .service).joinWaiters) := by
  simp [restoreEffect, h]

/-- R94: RESTORE naming an ISOLATED master takes its recovery event. -/
theorem restore_of_isolated {b : Byte} {f : List Byte} (named : b.toNat = m.val) (isolated : (s.conf m).standing = .isolated)
    (takes : s.takesFrame (.restore b) f) :
    exec (.restore b) s = .next (State.answered (s.recover m .service).joinWaiters f (plain .ok)) := by
  have acts : ranged (readMasterArg b) restoreEffect s = (plain .ok, (s.recover m .service).joinWaiters) := by
    rw [readMasterArg_eq_some.mpr named, ranged_some, restoreEffect_isolated isolated]
  exact congrArg Host.Outcome.next (State.command_of_takesFrame rfl takes acts)

end

/-- Settles O51: every command but the three excepted leaves the master ISOLATED under MANUAL with count 0, and RESTORE naming it is
its recovery event. -/
theorem manualRecoversByRestoreAlone : Obligations.ManualRecoversByRestoreAlone := by
  refine ⟨fun c s t m b named isolated manual count noReset noRestore noRecovery e => ?kept,
    fun s m b f named isolated manual takes => ?restored⟩
  case kept =>
    have unnamed (b' : Byte) (h : b'.toNat = m.val) : b' = b := BitVec.eq_of_toNat_eq (h.trans named.symm)
    have start : s.ManuallyIsolated m := ⟨isolated, manual, count⟩
    have kept : t.ManuallyIsolated m := start.after_exec c noReset
      (fun b' hc h => noRestore (unnamed b' h ▸ hc)) (fun b' r hc h => noRecovery r (unnamed b' h ▸ hc)) t e
    exact ⟨kept.isolated, kept.manual, kept.count, State.masterData_count_of_manual kept.manual⟩
  case restored =>
    obtain ⟨listed, joined⟩ := (s.recover m .service).joinWaiters_conf m
    rw [s.recover_conf_self m .service] at joined
    refine ⟨_, restore_of_isolated named isolated takes, ?_, ?_⟩
    · rw [State.answered_conf, joined]
    · rw [State.answered_conf, joined]

end Sys2Proof.Machine
end

section
/-! SUPPORT. The memory arbiter (R99, R102, R103): a master's candidate, the eligible masters, and the winner among them. -/

namespace Sys2Proof.Machine

section
variable {s : State} {m w : Master} {k : SlotIx}

/-! ### The candidates (R99) -/

/-- R99: slot `k` holds the record `x` of a QUEUED transaction of master `m`. -/
def State.Queued (s : State) (m : Master) (k : SlotIx) (x : Slot) : Prop :=
  s.slot k = some x ∧ x.master = m ∧ x.orphan = false ∧ x.phase = .queued

theorem State.candidate_eq_none : s.candidate m = none ↔ ∀ k x, ¬s.Queued m k x := by
  simp [State.candidate, s.oldest_none, State.Queued]

theorem State.queued_of_candidate (h : s.candidate m = some k) :
    ∃ x, s.Queued m k x ∧
      ∀ j y, s.Queued m j y → (s.counter m - y.admission).toNat ≤ (s.counter m - x.admission).toNat := by
  obtain ⟨x, live, owner, own, phase, oldest⟩ := s.oldest_some m _ k h
  exact ⟨x, ⟨live, owner, own, eq_of_beq phase⟩,
    fun j y ⟨live', owner', own', phase'⟩ => oldest j y live' owner' own' (beq_iff_eq.mpr phase')⟩

/-! ### The eligible masters (R102) -/

theorem State.eligible_iff :
    s.eligible m = true ↔
      s.candidate m ≠ none ∧ ((s.conf m).deferral = 0 ∨ ∀ n, s.candidate n ≠ none → (s.conf n).deferral ≠ 0) := by
  have all : ∀ n : Master, n ∈ allMasters := by decide
  simp [State.eligible, Option.isSome_iff_ne_none, all]

/-- R102: where the candidates all belong to deferred masters, all of them are eligible; so no candidate waits in vain. -/
theorem State.eligible_none_iff : (∀ m, ¬s.eligible m = true) ↔ ∀ m, s.candidate m = none := by
  constructor
  · intro none_eligible m
    by_contra waits
    have deferred (n : Master) (waits' : s.candidate n ≠ none) : (s.conf n).deferral ≠ 0 := fun undeferred =>
      none_eligible n (State.eligible_iff.mpr ⟨waits', .inl undeferred⟩)
    exact none_eligible m (State.eligible_iff.mpr ⟨waits, .inr deferred⟩)
  · intro no_candidate m eligible
    exact (State.eligible_iff.mp eligible).1 (no_candidate m)

/-! ### The winner (R103) -/

/-- R103: the arbiter counts the masters up from the one after the pointer. -/
theorem State.winner_eq_find (s : State) :
    s.winner = (Fin.find? fun turn => s.eligible (s.pointer + 1 + turn)).map (s.pointer + 1 + ·) := by
  have order : ∀ p : Master, [p + 1, p + 2, p + 3, p] = (List.finRange 4).map (p + 1 + ·) := by decide
  rw [State.winner, order, List.find?_map, Fin.find?_eq_find?_finRange]
  rfl

theorem State.winner_eq_some :
    s.winner = some w ↔
      s.eligible w = true ∧ ∀ v, v - (s.pointer + 1) < w - (s.pointer + 1) → ¬s.eligible v = true := by
  rw [s.winner_eq_find, Option.map_eq_some_iff]
  constructor
  · rintro ⟨turn, found, rfl⟩
    obtain ⟨eligible, first⟩ := Fin.find?_eq_some_iff.mp found
    exact ⟨eligible, fun v earlier => by simpa using first (v - (s.pointer + 1)) (by simpa using earlier)⟩
  · rintro ⟨eligible, first⟩
    refine ⟨w - (s.pointer + 1), Fin.find?_eq_some_iff.mpr ⟨by simpa using eligible, fun turn earlier => ?_⟩, by simp⟩
    simpa using first (s.pointer + 1 + turn) (by simpa using earlier)

theorem State.winner_eq_none : s.winner = none ↔ ∀ m, ¬s.eligible m = true := by
  rw [s.winner_eq_find, Option.map_eq_none_iff, Fin.find?_eq_none_iff]
  constructor
  · intro none_eligible m
    simpa using none_eligible (m - (s.pointer + 1))
  · intro none_eligible turn
    simp [none_eligible]

end

/-- Settles O35: the candidates by R99, the eligible among them by R102, and the winner by its turn after the pointer (R103). -/
theorem arbiterChoosesTheWinner : Obligations.ArbiterChoosesTheWinner := by
  refine fun s => ⟨fun m k => State.queued_of_candidate, fun m => State.candidate_eq_none, fun m => State.eligible_iff,
    fun w won => ?winner, State.winner_eq_none.trans State.eligible_none_iff⟩
  case winner =>
    obtain ⟨eligible, first⟩ := State.winner_eq_some.mp won
    exact ⟨eligible, fun v rival => Nat.le_of_not_lt fun earlier => first v earlier rival⟩

end Sys2Proof.Machine
end

section
/-! SUPPORT. What an event is made of: the operations that carry out the isolation event, the recovery event and the port clear
without their records, and the assessment of the memory without its records. -/

namespace Sys2Proof.Machine

section
variable {s : State} {m n p q : Master} {k : SlotIx}

/-! ### The isolation event, the recovery event and the port clear without their records -/

/-- R79 to R82: the isolation event of master `m`, but for its record and its flag. -/
def State.cutOff (s : State) (m : Master) : State :=
  let s1 := (s.dropSlots m).leaveWaitList m
  let s2 := s1.setPort m { s1.port m with
    writeList := (s1.port m).writeList.map ListEntry.toDiscard, offer := (s1.port m).offer.map Item.withdraw, cut := true }
  s2.setConf m { s2.conf m with score := Config.scoreMax, standing := .isolated, count := 0, deferral := 0 }

/-- R92: the recovery event of master `m`, but for its record and its flag. -/
def State.readmit (s : State) (m : Master) : State :=
  let s1 := s.setConf m { s.conf m with score := 0, standing := .active, count := 0, deferral := 0 }
  s1.setPort m { s1.port m with cut := false }

/-- R40: the port clear of port `p`, but for its record. -/
def State.clearPort (s : State) (p : Master) : State :=
  let s1 := (s.dropSlots p).leaveWaitList p
  s1.setPort p { s1.port p with head := none, writeList := [], offer := none }

theorem State.isolateMaster_eq (s : State) (m : Master) (cause : StandingCause) :
    s.isolateMaster m cause =
      ((s.cutOff m).hand (.standing m (s.conf m).standing .isolated cause 256 (some (s.dropCount m)))).raiseStanding := rfl

theorem State.recover_eq (s : State) (m : Master) (cause : StandingCause) :
    s.recover m cause = ((s.readmit m).hand (.standing m .isolated .active cause 0 none)).raiseRecovery := rfl

theorem State.portClear_eq (s : State) (p : Master) : s.portClear p = (s.clearPort p).hand (.portCleared p (s.dropCount p)) := rfl

@[simp] theorem State.dropSlots_port (s : State) (m p : Master) : (s.dropSlots m).port p = s.port p := rfl
@[simp] theorem State.dropSlots_conf (s : State) (m n : Master) : (s.dropSlots m).conf n = s.conf n := rfl
@[simp] theorem State.leaveWaitList_slot (s : State) (p : Master) (k : SlotIx) : (s.leaveWaitList p).slot k = s.slot k := rfl
@[simp] theorem State.leaveWaitList_port (s : State) (p q : Master) : (s.leaveWaitList p).port q = s.port q := rfl
@[simp] theorem State.leaveWaitList_conf_self (s : State) (p : Master) :
    (s.leaveWaitList p).conf p = { s.conf p with waitListed := false } := s.setConf_conf_self p _
theorem State.leaveWaitList_conf_ne (s : State) (p : Master) (h : n ≠ p) : (s.leaveWaitList p).conf n = s.conf n :=
  s.setConf_conf_ne p _ h
@[simp] theorem State.joinWaitList_slot (s : State) (p : Master) (k : SlotIx) : (s.joinWaitList p).slot k = s.slot k := rfl
@[simp] theorem State.joinWaitList_port (s : State) (p q : Master) : (s.joinWaitList p).port q = s.port q := rfl
@[simp] theorem State.joinWaitList_conf_self (s : State) (p : Master) :
    (s.joinWaitList p).conf p = { s.conf p with waitListed := true } := s.setConf_conf_self p _
theorem State.joinWaitList_conf_ne (s : State) (p : Master) (h : n ≠ p) : (s.joinWaitList p).conf n = s.conf n :=
  s.setConf_conf_ne p _ h

@[simp] theorem State.cutOff_slot (s : State) (m : Master) (k : SlotIx) : (s.cutOff m).slot k = dropOne m (s.slot k) :=
  s.dropSlots_slot m k

@[simp] theorem State.cutOff_conf_self (s : State) (m : Master) :
    (s.cutOff m).conf m =
      { s.conf m with score := 256, standing := .isolated, count := 0, deferral := 0, waitListed := false } := by
  simp [State.cutOff, Config.scoreMax]

theorem State.cutOff_conf_ne (s : State) (h : n ≠ m) : (s.cutOff m).conf n = s.conf n := by
  simp [State.cutOff, State.setConf_conf_ne _ _ _ h, State.leaveWaitList_conf_ne _ _ h]

@[simp] theorem State.cutOff_port_self (s : State) (m : Master) :
    (s.cutOff m).port m = { s.port m with
      writeList := (s.port m).writeList.map ListEntry.toDiscard, offer := (s.port m).offer.map Item.withdraw, cut := true } := by
  simp [State.cutOff]

theorem State.cutOff_port_ne (s : State) (h : q ≠ m) : (s.cutOff m).port q = s.port q := by
  simp [State.cutOff, State.setPort_port_ne _ _ _ h]

@[simp] theorem State.clearPort_slot (s : State) (p : Master) (k : SlotIx) : (s.clearPort p).slot k = dropOne p (s.slot k) :=
  s.dropSlots_slot p k

@[simp] theorem State.clearPort_conf_self (s : State) (p : Master) :
    (s.clearPort p).conf p = { s.conf p with waitListed := false } := by
  simp [State.clearPort]

theorem State.clearPort_conf_ne (s : State) (h : n ≠ p) : (s.clearPort p).conf n = s.conf n := by
  simp [State.clearPort, State.leaveWaitList_conf_ne _ _ h]

@[simp] theorem State.clearPort_port_self (s : State) (p : Master) :
    (s.clearPort p).port p = { s.port p with head := none, writeList := [], offer := none } := by
  simp [State.clearPort]

theorem State.clearPort_port_ne (s : State) (h : q ≠ p) : (s.clearPort p).port q = s.port q := by
  simp [State.clearPort, State.setPort_port_ne _ _ _ h]

@[simp] theorem State.readmit_slot (s : State) (m : Master) (k : SlotIx) : (s.readmit m).slot k = s.slot k := rfl

@[simp] theorem State.readmit_conf_self (s : State) (m : Master) :
    (s.readmit m).conf m = { s.conf m with score := 0, standing := .active, count := 0, deferral := 0 } := by
  simp [State.readmit]

theorem State.readmit_conf_ne (s : State) (h : n ≠ m) : (s.readmit m).conf n = s.conf n := by
  simp [State.readmit, State.setConf_conf_ne _ _ _ h]

@[simp] theorem State.readmit_port_self (s : State) (m : Master) : (s.readmit m).port m = { s.port m with cut := false } := by
  simp [State.readmit]

theorem State.readmit_port_ne (s : State) (h : q ≠ m) : (s.readmit m).port q = s.port q := by
  simp [State.readmit, State.setPort_port_ne _ _ _ h]

/-! ### The memory health block without its records -/

/-- R134, R135, R137: the memory health block takes the value `h`, and a change to FAILED fails the QUEUED slots. -/
def State.assess (s : State) (h : Health) : State :=
  if h.standing = .failed ∧ s.health.standing ≠ .failed then { s with health := h }.failQueued else { s with health := h }

theorem State.assess_of_failure {h : Health} (failed : h.standing = .failed) (before : s.health.standing ≠ .failed) :
    s.assess h = { s with health := h }.failQueued := if_pos ⟨failed, before⟩

theorem State.assess_of_no_failure {h : Health} (sound : h.standing = .failed → s.health.standing = .failed) :
    s.assess h = { s with health := h } := if_neg fun ⟨failed, before⟩ => before (sound failed)

theorem State.assess_withMem {mem : MemPort} {h : Health} (sound : h.standing = .failed → s.health.standing = .failed) :
    State.assess { s with mem := mem } h = { s with mem := mem, health := h } :=
  State.assess_of_no_failure (s := { s with mem := mem }) sound

/-- The assessment of the memory touches the health block and the slots alone. -/
theorem State.assess_frame (s : State) (h : Health) : s.assess h = { s with slots := (s.assess h).slots, health := h } := by
  unfold State.assess
  split <;> rfl

/-- R137: each slot after the assessment of the memory is as it was, or QUEUED has become READY. -/
theorem State.assess_slot (s : State) (h : Health) (k : SlotIx) :
    (s.assess h).slot k = s.slot k ∨ h.standing = .failed ∧ (s.assess h).slot k = failOne s.fill (s.slot k) := by
  unfold State.assess
  split
  · rename_i failure
    exact .inr ⟨failure.1, State.failQueued_slot { s with health := h } k⟩
  · exact .inl rfl

/-- A hand-over and the failure of the QUEUED slots touch different blocks, so their order does not matter. -/
theorem State.failQueued_hand (s : State) (b : RecordBody) : (s.hand b).failQueued = s.failQueued.hand b := by
  rw [State.hand_reads s s.failQueued b rfl rfl]
  conv => lhs; rw [State.failQueued, s.hand_frame b]
  rfl

theorem State.hand_withHealth (s : State) (h : Health) (b : RecordBody) :
    State.hand { s with health := h } b = { s.hand b with health := h } := by
  rw [State.hand_reads s { s with health := h } b rfl rfl]
  conv => rhs; rw [s.hand_frame]

/-- The record of an event, where it has one. -/
def State.handSome (s : State) : Option RecordBody → State
  | none => s
  | some b => s.hand b

theorem State.memStandingChanged_eq (s : State) (old : MemStanding) (cause : MemoryCause) :
    s.memStandingChanged old cause =
      ((if s.health.standing = .failed then s.failQueued else s).hand
        (.memoryStanding old s.health.standing cause s.health.score)).raiseMemory := by
  unfold State.memStandingChanged
  simp only
  have stays : (s.hand (.memoryStanding old s.health.standing cause s.health.score)).raiseMemory.health = s.health :=
    s.hand_health _
  split
  · rename_i failed
    rw [← State.failQueued_hand]
    rfl
  · rfl

theorem State.handSome_withHealth (s : State) (h : Health) (r : Option RecordBody) :
    State.handSome { s with health := h } r = { s.handSome r with health := h } := by
  cases r with
  | none => rfl
  | some b => exact s.hand_withHealth h b

theorem State.failQueued_handSome (s : State) (r : Option RecordBody) : (s.handSome r).failQueued = s.failQueued.handSome r := by
  cases r with
  | none => rfl
  | some b => exact s.failQueued_hand b

/-- R133, R135: the memory health block after a class. -/
def Health.after (h : Health) (c : HealthClass) : Health :=
  ⟨classScore c h.score, memStandingAfter h.standing (classScore c h.score)⟩

/-- R134: the scoring of a class is an assessment of the memory with the records handed over after it. -/
theorem State.scoreMemory_eq (s : State) (c : HealthClass) (record : Nat → Option RecordBody) :
    s.scoreMemory c record =
      let h := s.health.after c
      let recorded := (s.assess h).handSome (record h.score)
      if h.standing = s.health.standing then recorded
      else (recorded.hand (.memoryStanding s.health.standing h.standing .score h.score)).raiseMemory := by
  generalize new : s.health.after c = h
  have scored : s.scoreMemory c record =
      let s3 := State.handSome { s with health := h } (record h.score)
      if h.standing = s.health.standing then s3 else s3.memStandingChanged s.health.standing .score := by
    subst new
    rw [s.handSome_withHealth]
    simp only [State.scoreMemory, Health.after]
    cases record (classScore c s.health.score) with
    | none => rfl
    | some b =>
      simp only [State.hand_withHealth, State.handSome]
      rfl
  have holds : (State.handSome { s with health := h } (record h.score)).health = h := by rw [s.handSome_withHealth]
  rw [scored]
  simp only
  split
  · rename_i same
    rw [State.assess_of_no_failure fun failed => same ▸ failed]
  · rename_i changed
    rw [State.memStandingChanged_eq, holds, State.failQueued_handSome]
    by_cases failed : h.standing = .failed
    · rw [if_pos failed, State.assess_of_failure failed fun before => changed (failed.trans before.symm)]
    · rw [if_neg failed, State.assess_of_no_failure fun f => absurd f failed]

end
end Sys2Proof.Machine
end

section
/-! SUPPORT. What a command is made of. A command takes its own moves first (`Move`), and then what follows of them: records, flags,
changes of scores and standings, recoveries, cleared ports and joinings of the wait list (`Follow`). That every command is such a
course is proved once, below; a rule of the whole machine is then proved move by move. -/

namespace Sys2Proof.Machine

open Relation (ReflTransGen)

/-! ### What follows of an event -/

/-- R164: the flags `g` are the flags `f` with some sticky ones set beside. -/
structure AlertSet.Raises (f g : AlertSet) : Prop where
  queue    : g.queue = f.queue
  standing : f.standing = true → g.standing = true
  recovery : f.recovery = true → g.recovery = true
  memory   : f.memory = true → g.memory = true
  loss     : f.loss = true → g.loss = true
  held     : f.held = true → g.held = true

/-- R170, R171: what State.LinkSound says of the link. -/
def Link.Sound (l : Link) : Prop :=
  (l.ssel = false → l.frame = none ∧ l.sdout = none) ∧
    (∀ f ∈ l.frame, f.bits.length < 8 ∧ f.bytes.length = min 11 f.count) ∧ (l.retained = none ↔ l.inCommandFrame = true)

theorem State.linkSound_iff (s : State) : s.LinkSound ↔ s.link.Sound := Iff.rfl

/-- R22, R33, R36, R38: a write-data list gives up a discard entry at its head, gains one at its tail where it has room, or stays. -/
inductive ListShift : List ListEntry → List ListEntry → Prop
  | same {l : List ListEntry} : ListShift l l
  | pop {l : List ListEntry} : ListShift (.discard :: l) l
  | push {l : List ListEntry} (room : l.length < 4) : ListShift l (l ++ [.discard])

/-- R89, R90: nothing but recovery counts, and the count of free values, differs. -/
def State.CountsMove (s u : State) : Prop :=
  u = { s with masters := u.masters, draws := u.draws } ∧ ∀ m, u.conf m = { s.conf m with count := (u.conf m).count }

/-- The steps of recoveries that are taken together: records, flags, free choices, and the recovery events of ISOLATED masters. -/
inductive Recovery : State → State → Prop
  | hand (s : State) (b : RecordBody) : Recovery s (s.hand b)
  | flags (s : State) (f : AlertSet) (raises : s.alerts.flags.Raises f) : Recovery s (s.withFlags f)
  | draws (s : State) (d : Nat) : Recovery s { s with draws := d }
  | readmit (s : State) (m : Master) (isolated : (s.conf m).standing = .isolated) : Recovery s (s.readmit m)

/-- What follows of an event. -/
inductive Follow : State → State → Prop
  | recovery {s t : State} (step : Recovery s t) : Follow s t
  | recoveries {s u t : State} (counts : s.CountsMove u) (taken : ReflTransGen Recovery u t)
      (bounded : s.CountsBounded → t.CountsBounded) : Follow s t
  | link (s : State) (l : Link) (sound : s.link.Sound → l.Sound) : Follow s { s with link := l }
  | port (s : State) (p : Master) (x : Port) (list : ListShift (s.port p).writeList x.writeList)
      (cut : x.cut = (s.port p).cut) : Follow s (s.setPort p x)
  | promote (s : State) : Follow s { s with ports := mapBank Port.promote s.ports }
  | silence (s : State) (m : Master) : Follow s (s.setConf m { s.conf m with count := 0 })
  | join (s : State) (p : Master) (due : s.mustJoin p = true) : Follow s (s.joinWaitList p)
  | score (s : State) (m : Master) (n : Nat) (guarded : s.mode = .guarded) (live : (s.conf m).standing ≠ .isolated)
      (same : standingOf n = (s.conf m).standing) : Follow s (s.setConf m { s.conf m with score := n })
  | limit (s : State) (m : Master) (n : Nat) (guarded : s.mode = .guarded) (active : (s.conf m).standing = .active)
      (limited : standingOf n = .limited) : Follow s (s.setConf m { s.conf m with score := n, standing := .limited })
  | relax (s : State) (m : Master) (n : Nat) (guarded : s.mode = .guarded) (limited : (s.conf m).standing = .limited)
      (active : standingOf n = .active) :
      Follow s (s.setConf m { s.conf m with score := n, standing := .active, deferral := 0 })
  | cutOff (s : State) (m : Master) (guarded : s.mode = .guarded) (live : (s.conf m).standing ≠ .isolated) :
      Follow s (s.cutOff m)
  | clear (s : State) (p : Master) : Follow s (s.clearPort p)

/-! ### The moves of a command -/

/-- How far a command has come: nothing has happened that another move builds on; its transaction at the memory has ended and the
memory is not assessed yet; it is assessed, and the port is BUSY still; the command's own moves are over. -/
inductive Stage where
  | fresh
  | ending
  | closing
  | done
  deriving DecidableEq

/-- What follows of a first move ends the stage of the moves that must come before it. -/
def Stage.after : Stage → Stage
  | .fresh => .done
  | .ending => .ending
  | .closing => .closing
  | .done => .done

/-- R34, R35: the record and the list with which a burst ends: filled as declared, or malformed. -/
inductive FillEnds (s : State) (x : Slot) (rest : List ListEntry) : Slot → List ListEntry → Prop
  | filled (all : x.beats.val ≤ x.progress) : FillEnds s x rest (s.finishFilling x) rest
  | malformed (c : ProtocolCause) : FillEnds s x rest (x.malformed c) rest
  | long (c : ProtocolCause) : FillEnds s x rest (x.malformed c) (.discard :: rest)

/-- The moves of the command `c`, each from a stage to a stage. -/
inductive Move (c : Instr) : Stage → State → Stage → State → Prop
  | follow {a : Stage} {s t : State} (step : Follow s t) : Move c a s a.after t
  | allocate (s : State) (p : Master) (k : SlotIx) (r : Request) (due : s.admissible p = some r)
      (free : s.lowestFree = some k) : Move c .fresh s .done (s.allocate p k r)
  | fillMore (s : State) (p : Master) (k : SlotIx) (x : Slot) (rest : List ListEntry) (b : DataBeat)
      (head : (s.port p).writeList = .fill k :: rest) (live : s.slot k = some x) (more : x.progress + 1 < x.beats.val) :
      Move c .fresh s .done (s.setSlot k (some (x.takeBeat b)))
  | fillEnd (s : State) (p : Master) (k : SlotIx) (x y : Slot) (rest l : List ListEntry) (b : DataBeat)
      (head : (s.port p).writeList = .fill k :: rest) (live : s.slot k = some x) (ends : FillEnds s (x.takeBeat b) rest y l) :
      Move c .fresh s .done ((s.setSlot k (some y)).setWriteList p l)
  | stall (s : State) (k : SlotIx) (x : Slot) (live : s.slot k = some x) (filling : x.phase = .filling) :
      Move c .fresh s .done
        ((s.freeSlot k).setWriteList x.master (((s.freeSlot k).port x.master).writeList.map (ListEntry.unfill k)))
  | free (s : State) (k : SlotIx) (x : Slot) (live : s.slot k = some x) (delivering : x.phase = .delivering) :
      Move c .fresh s .done (s.freeSlot k)
  | deliver (s : State) (k : SlotIx) (x : Slot) (r : Result) (live : s.slot k = some x) (ready : x.phase = .ready)
      (outcome : x.outcome = some r) :
      Move c .fresh s .done
        (s.setSlot k (some { x with phase := .delivering, progress := 0, timer := some s.time.masterTimeout }))
  | advance (s : State) (k : SlotIx) (x : Slot) (live : s.slot k = some x) (delivering : x.phase = .delivering) :
      Move c .fresh s .done (s.setSlot k (some { x with progress := x.progress + 1 }))
  | grant (s : State) (w : Master) (k : SlotIx) (x : Slot) (idle : s.mem.state = .idle) (candidate : s.candidate w = some k)
      (live : s.slot k = some x) : Move c .fresh s .done { (s.issue k x).deferAt w with pointer := w }
  | storeBeat (s : State) (k : SlotIx) (x : Slot) (word : Word) (status : BitVec 2) (busy : s.mem.state = .busy)
      (issued : s.issued = some (k, x)) (read : x.kind = .read) : Move c .fresh s .fresh (s.storeBeat k x word status)
  | dropOrphan (s : State) (k : SlotIx) (x : Slot) (busy : s.mem.state = .busy) (issued : s.issued = some (k, x)) :
      Move c .fresh s .ending (s.freeSlot k)
  | finish (s : State) (k : SlotIx) (x : Slot) (r : Result) (corrected : Bool) (words : List Word) (busy : s.mem.state = .busy)
      (issued : s.issued = some (k, x)) (own : x.orphan = false)
      (full : x.wordsKept s.mem.received = true → x.kind = .read → words.length = x.beats.val) :
      Move c .fresh s .ending (s.setSlot k
        (some { x with phase := .ready, outcome := some r, corrected := corrected, timer := none, words := words }))
  | assess (s : State) (h : Health) (sound : s.health.standing ≠ .failed → s.health.sound = true → h.sound = true) :
      Move c .ending s .closing (s.assess h)
  | close (s : State) (mem : MemPort) (sound : mem.sound = true) (left : mem.state ≠ .busy)
      (failed : mem.state = .failed ↔ s.health.standing = .failed) : Move c .closing s .done { s with mem := mem }
  | memory (s : State) (mem : MemPort) (h : Health) (sound : s.mem.sound = true → mem.sound = true)
      (healthy : s.health.sound = true → h.sound = true)
      (failed : (s.mem.state = .failed ↔ s.health.standing = .failed) → (mem.state = .failed ↔ h.standing = .failed))
      (busy : mem.state = .busy ↔ s.mem.state = .busy) (received : mem.state = .busy → mem.received = s.mem.received) :
      Move c .fresh s .done (State.assess { s with mem := mem } h)
  | failQueued (s : State) (failed : s.health.standing = .failed) : Move c .done s .done s.failQueued
  | timers (s : State) : Move c .fresh s .done { s with
      time := { s.time with count := 0 }, slots := mapBank tickSlot s.slots
      mem := { s.mem with timer := s.mem.timer.map (· - 1) } }
  | edge (s : State) (below : s.time.count + 1 < 2 ^ s.time.divider) :
      Move c .fresh s .done { s with time := { s.time with count := s.time.count + 1 } }
  | mode (s : State) (b : Byte) (m : Mode) (hc : c = .setMode b) : Move c .fresh s .done { s with mode := m }
  | fill (s : State) (w : Word) : Move c .fresh s .done { s with fill := w }
  | window (s : State) (i : WindowIx) (w : Window) (ordered : w.base.toNat ≤ w.last.toNat) :
      Move c .fresh s .done (s.setWindow i w)
  | timing (s : State) (k a b : Nat) (divider : k ≤ 8) (master : 1 ≤ a ∧ a ≤ 255) (memory : 1 ≤ b ∧ b ≤ 255) :
      Move c .fresh s .done { s with time := ⟨k, 0, a, b⟩ }
  | deferral (s : State) (n : Nat) (most : n ≤ 15) : Move c .fresh s .done { s with deferral := n }
  | mask (s : State) (m : BitVec 11) : Move c .fresh s .done { s with queue := { s.queue with mask := m } }
  | enables (s : State) (e : AlertSet) : Move c .fresh s .done (s.withEnables e)
  | clearFlags (s : State) (b : Byte) (f : AlertSet) (hc : c = .clearAlerts b) :
      Move c .fresh s .done (s.withFlags (s.alerts.flags.without f))
  | pop (s : State) (hc : c = .popFault) (r : FaultRecord) (rest : List FaultRecord) (records : s.queue.records = r :: rest) :
      Move c .fresh s .done
        (if rest = [] then State.lowerQueue { s with queue := { s.queue with records := rest } }
         else { s with queue := { s.queue with records := rest } })
  | recoveryMode (s : State) (m : Master) (r : RecoveryMode) :
      Move c .fresh s .done (s.setConf m { s.conf m with recovery := r, count := 0 })
  | clearActive (s : State) (b : Byte) (m : Master) (hc : c = .clearScore b) (active : (s.conf m).standing = .active) :
      Move c .fresh s .done (s.setConf m { s.conf m with score := 0 })
  | clearLimited (s : State) (b : Byte) (m : Master) (hc : c = .clearScore b) (limited : (s.conf m).standing = .limited) :
      Move c .fresh s .done (s.setConf m { s.conf m with score := 0, standing := .active, deferral := 0 })
  | isolate (s : State) (b : Byte) (m : Master) (hc : c = .isolate b) (live : (s.conf m).standing ≠ .isolated) :
      Move c .fresh s .done (s.cutOff m)
  | restore (s : State) (b : Byte) (m : Master) (hc : c = .restore b) (isolated : (s.conf m).standing = .isolated) :
      Move c .fresh s .done (s.readmit m)
  | resetReleased (s : State) : Move c .fresh s .done { s with resetPin := false }
  | serviceReset (s : State) (hc : c = .resetPart) : Move c .fresh s .done s.serviceReset
  | resetValues (s : State) (hc : commandIsReset c = true) (o : Origin) (onPort : Port → Port)
      (lists : onPort = Port.afterPower ∨ onPort = Port.afterPin) : Move c .fresh s .done (s.resetValues o onPort)
  | resetAsserted (s : State) (hc : commandIsReset c = true) : Move c .fresh s .fresh { s with resetPin := true }

/-- The states that the moves of the command `c` lead to from `s`, with the stage reached. -/
inductive Runs (c : Instr) (s : State) : Stage → State → Prop
  | start : Runs c s .fresh s
  | move {a b : Stage} {u v : State} (runs : Runs c s a u) (step : Move c a u b v) : Runs c s b v

/-- The command `c` leads from `s` to `t`: its moves are over, and no transaction is left half ended. -/
def Course (c : Instr) (s t : State) : Prop := Runs c s .fresh t ∨ Runs c s .done t

/-- What every move of a command keeps holds after the command. -/
theorem Course.keeps {c : Instr} {s t : State} (course : Course c s t) (I : Stage → State → Prop) (start : I .fresh s)
    (move : ∀ a u b v, Move c a u b v → I a u → I b v) : I .fresh t ∨ I .done t := by
  have reach {a u} (runs : Runs c s a u) : I a u := by
    induction runs with
    | start => exact start
    | move _ step ih => exact move _ _ _ _ step ih
  exact course.imp reach reach

/-- What every move of a command keeps, whatever the stage, holds after the command. -/
theorem Course.keeps_state {c : Instr} {s t : State} (course : Course c s t) (P : State → Prop) (start : P s)
    (move : ∀ a u b v, Move c a u b v → P u → P v) : P t :=
  (course.keeps (fun _ => P) start move).elim id id

section
variable {c : Instr} {s t u v : State} {a : Stage}

theorem Course.refl : Course c s s := .inl .start

theorem Runs.follow (runs : Runs c s a u) (step : Follow u v) : Runs c s a.after v := runs.move (.follow step)

theorem Course.follow (course : Course c s u) (step : Follow u v) : Course c s v := by
  obtain runs | runs := course
  · exact .inr (runs.follow step)
  · exact .inr (runs.follow step)

/-- R137: the failure of the QUEUED slots of a memory that is FAILED already. -/
theorem Runs.failQueued (runs : Runs c s .done u) (failed : u.health.standing = .failed) : Runs c s .done u.failQueued :=
  runs.move (.failQueued u failed)

theorem Course.follows (course : Course c s u) (steps : ReflTransGen Follow u v) : Course c s v := by
  induction steps with
  | refl => exact course
  | tail _ step ih => exact ih.follow step

theorem Runs.follows_closing (runs : Runs c s .closing u) (steps : ReflTransGen Follow u v) : Runs c s .closing v := by
  induction steps with
  | refl => exact runs
  | tail _ step ih => exact ih.follow step

/-- A first move of a command. -/
theorem Course.of_move (step : Move c .fresh s .done t) : Course c s t := .inr (Runs.start.move step)

end

end Sys2Proof.Machine
end

section
/-! SUPPORT. What follows of an event, for each shared operation: the joinings of the wait list, the scores, the recoveries by count,
and the end of a reset. -/

namespace Sys2Proof.Machine

open Relation (ReflTransGen)

section
variable {s t u : State} {m n p : Master}

theorem mem_allMasters (m : Master) : m ∈ allMasters := by revert m; decide

theorem mem_allSlots (k : SlotIx) : k ∈ allSlots := by revert k; decide

theorem nodup_allSlots : allSlots.Nodup := by decide

/-! ### Records, flags and free choices -/

theorem AlertSet.Raises.refl (f : AlertSet) : f.Raises f := ⟨rfl, id, id, id, id, id⟩

theorem State.raiseStanding_recovery (s : State) : Recovery s s.raiseStanding :=
  .flags s _ { AlertSet.Raises.refl s.alerts.flags with standing := fun _ => rfl }
theorem State.raiseRecovery_recovery (s : State) : Recovery s s.raiseRecovery :=
  .flags s _ { AlertSet.Raises.refl s.alerts.flags with recovery := fun _ => rfl }
theorem State.raiseMemory_recovery (s : State) : Recovery s s.raiseMemory :=
  .flags s _ { AlertSet.Raises.refl s.alerts.flags with memory := fun _ => rfl }
theorem State.raiseHeld_recovery (s : State) : Recovery s s.raiseHeld :=
  .flags s _ { AlertSet.Raises.refl s.alerts.flags with held := fun _ => rfl }

theorem State.hand_follow (s : State) (b : RecordBody) : Follow s (s.hand b) := .recovery (.hand s b)
theorem State.raiseStanding_follow (s : State) : Follow s s.raiseStanding := .recovery s.raiseStanding_recovery
theorem State.raiseRecovery_follow (s : State) : Follow s s.raiseRecovery := .recovery s.raiseRecovery_recovery
theorem State.raiseMemory_follow (s : State) : Follow s s.raiseMemory := .recovery s.raiseMemory_recovery
theorem State.raiseHeld_follow (s : State) : Follow s s.raiseHeld := .recovery s.raiseHeld_recovery
theorem State.draws_follow (s : State) (d : Nat) : Follow s { s with draws := d } := .recovery (.draws s d)

theorem State.handSome_follows (s : State) (r : Option RecordBody) : ReflTransGen Follow s (s.handSome r) := by
  cases r with
  | none => exact .refl
  | some b => exact .single (s.hand_follow b)

/-! ### The wait list -/

theorem State.mustJoin_withDraws (s : State) (d : Nat) (p : Master) : State.mustJoin { s with draws := d } p = s.mustJoin p := rfl

theorem State.joinOne_follows (s : State) : ReflTransGen Follow s s.joinOne := by
  obtain ⟨e, -⟩ | ⟨p, d, due, e⟩ := s.joinOne_cases <;> rw [e]
  exact .tail (.single (s.draws_follow d)) (.join { s with draws := d } p due)

theorem State.joinWaiters_follows (s : State) : ReflTransGen Follow s s.joinWaiters :=
  ((s.joinOne_follows.trans (State.joinOne_follows _)).trans (State.joinOne_follows _)).trans (State.joinOne_follows _)

/-! ### Scores and isolation -/

theorem State.isolateMaster_follows (guarded : s.mode = .guarded) (live : (s.conf m).standing ≠ .isolated) (cause : StandingCause) :
    ReflTransGen Follow s (s.isolateMaster m cause) :=
  .tail (.tail (.single (.cutOff s m guarded live)) (State.hand_follow _ _)) (State.raiseStanding_follow _)

/-- R62, R67 to R69: in GUARD mode a score is written with what follows of it. -/
theorem State.writeScore_follows (guarded : s.mode = .guarded) (m : Master) (score : Nat) :
    ReflTransGen Follow s (s.writeScore m score) := by
  unfold State.writeScore
  simp only
  split
  · rename_i active limited
    exact .tail (.tail (.single (.limit s m score guarded active limited)) (State.hand_follow _ _)) (State.raiseStanding_follow _)
  · rename_i limited active
    exact .tail (.tail (.single (.relax s m score guarded limited active)) (State.hand_follow _ _)) (State.raiseRecovery_follow _)
  · rename_i active _
    exact State.isolateMaster_follows guarded (by simp [active]) _
  · rename_i limited _
    exact State.isolateMaster_follows guarded (by simp [limited]) _
  · rename_i active same
    exact .single (.score s m score guarded (by simp [active]) (same.trans active.symm))
  · rename_i limited same
    exact .single (.score s m score guarded (by simp [limited]) (same.trans limited.symm))
  · exact .refl

theorem State.fault_follows (s : State) (m : Master) (w : Nat) (record : Nat → RecordBody) :
    ReflTransGen Follow s (s.fault m w record) := by
  have handed : ReflTransGen Follow s (s.hand (record (s.faultScore m w))) := .single (s.hand_follow _)
  unfold State.fault
  cases mode : s.mode with
  | guarded => exact handed.trans (State.writeScore_follows (by simp [mode]) m _)
  | pass => exact handed

theorem State.cleanCompletion_follows (s : State) (m : Master) : ReflTransGen Follow s (s.cleanCompletion m) := by
  unfold State.cleanCompletion
  split
  · rename_i guarded _; exact State.writeScore_follows guarded m _
  · rename_i guarded _; exact State.writeScore_follows guarded m _
  · exact .refl
  · exact .refl

theorem State.handOver_follows (s : State) (p : Master) (r : Request) (d : Decision) :
    ReflTransGen Follow s (s.handOver p r d) := by
  cases d with
  | protocol c => exact s.fault_follows ..
  | denied w => exact s.fault_follows ..
  | unmapped => exact s.fault_follows ..
  | allowed w => exact .refl

/-! ### Recoveries taken together (R26, R89, R90) -/

theorem State.recover_steps (isolated : (s.conf m).standing = .isolated) (cause : StandingCause) :
    ReflTransGen Recovery s (s.recover m cause) :=
  .tail (.tail (.single (.readmit s m isolated)) (.hand _ _)) (State.raiseRecovery_recovery _)

theorem State.mem_recovered {mode : RecoveryMode} {target : Nat} :
    m ∈ s.recovered mode target ↔
      (s.conf m).standing = .isolated ∧ (s.conf m).recovery = mode ∧ target ≤ (s.conf m).count := by
  simp [State.recovered, Confinement.recovering, mem_allMasters, and_assoc]

theorem State.recovered_nodup (s : State) (mode : RecoveryMode) (target : Nat) : (s.recovered mode target).Nodup :=
  List.Nodup.filter _ (by decide)

theorem State.recovered_length (s : State) (mode : RecoveryMode) (target : Nat) : (s.recovered mode target).length ≤ 4 :=
  List.length_filter_le _ _

/-- The recoveries of several masters that are due together, as one fold over the order in which they are taken. -/
theorem State.recoverDue_order (s : State) (mode : RecoveryMode) (target : Nat) (cause : StandingCause) :
    ∃ (order : List Master) (d : Nat), order.Nodup ∧ (∀ m, m ∈ order ↔ m ∈ s.recovered mode target) ∧
      ((s.recovered mode target).length ≤ 1 → d = s.draws) ∧
      inFreeOrder (fun s m => s.recover m cause) 4 (s.recovered mode target) s =
        { order.foldl (fun s m => s.recover m cause) s with draws := d } :=
  inFreeOrder_order _ (fun s d m => State.recover_draws cause s d m) 4 _ s (s.recovered_nodup mode target)
    (s.recovered_length mode target)

/-- R92: each of several masters recovers once, and the records of the others stay. -/
theorem State.recoverAll_conf (cause : StandingCause) (order : List Master) (nodup : order.Nodup) (s : State) (n : Master) :
    (order.foldl (fun s m => s.recover m cause) s).conf n =
      if n ∈ order then { s.conf n with score := 0, standing := .active, count := 0, deferral := 0 } else s.conf n := by
  induction order generalizing s with
  | nil => rfl
  | cons m order ih =>
    obtain ⟨notLater, nodup⟩ := List.nodup_cons.mp nodup
    rw [List.foldl_cons, ih nodup]
    by_cases self : n = m
    · subst self
      simp [notLater, s.recover_conf_self]
    · simp [self, s.recover_conf_ne cause self]

theorem State.recoverAll_steps (cause : StandingCause) (order : List Master) (nodup : order.Nodup) (s : State)
    (isolated : ∀ m ∈ order, (s.conf m).standing = .isolated) :
    ReflTransGen Recovery s (order.foldl (fun s m => s.recover m cause) s) := by
  induction order generalizing s with
  | nil => exact .refl
  | cons m order ih =>
    obtain ⟨notLater, nodup⟩ := List.nodup_cons.mp nodup
    refine (State.recover_steps (isolated m (by simp)) cause).trans (ih nodup _ fun n later => ?_)
    have other : n ≠ m := by rintro rfl; exact notLater later
    rw [s.recover_conf_ne cause other]
    exact isolated n (List.mem_cons_of_mem _ later)

/-- The recoveries that a counting makes due. -/
def State.recoverDue (s : State) (mode : RecoveryMode) (target : Nat) (cause : StandingCause) : State :=
  inFreeOrder (fun s m => s.recover m cause) 4 (s.recovered mode target) s

theorem State.recoverDue_steps (s : State) (mode : RecoveryMode) (target : Nat) (cause : StandingCause) :
    ReflTransGen Recovery s (s.recoverDue mode target cause) := by
  obtain ⟨order, d, nodup, members, -, e⟩ := s.recoverDue_order mode target cause
  rw [State.recoverDue, e]
  exact .tail (State.recoverAll_steps cause order nodup s fun m due => (State.mem_recovered.mp ((members m).mp due)).1) (.draws _ d)

theorem State.recoverDue_conf (s : State) (mode : RecoveryMode) (target : Nat) (cause : StandingCause) (n : Master) :
    (s.recoverDue mode target cause).conf n =
      if n ∈ s.recovered mode target then { s.conf n with score := 0, standing := .active, count := 0, deferral := 0 }
      else s.conf n := by
  obtain ⟨order, d, nodup, members, -, e⟩ := s.recoverDue_order mode target cause
  rw [State.recoverDue, e]
  simp only [← members n]
  exact State.recoverAll_conf cause order nodup s n

/-- R88, R92: where a counting moves the counts of mode `mode` alone, the recoveries at `target` bring all counts below their recovery
again. -/
theorem State.recoverDue_bounded {mode : RecoveryMode} {target : Nat} {cause : StandingCause} (counts : s.CountsMove u)
    (at_target : mode.bound + 1 = target)
    (others : ∀ n, (s.conf n).recovering mode = false → (u.conf n).count = (s.conf n).count) :
    s.CountsBounded → (u.recoverDue mode target cause).CountsBounded := by
  intro bounded n
  obtain ⟨below, zero⟩ := bounded n
  have moved : u.conf n = { s.conf n with count := (u.conf n).count } := counts.2 n
  have standing : (u.conf n).standing = (s.conf n).standing := by rw [moved]
  have recovery : (u.conf n).recovery = (s.conf n).recovery := by rw [moved]
  rw [State.recoverDue_conf]
  split
  · exact ⟨Nat.zero_le _, fun _ => rfl⟩
  · rename_i notDue
    cases counted : (s.conf n).recovering mode with
    | false =>
      rw [others n counted, standing, recovery]
      exact ⟨below, zero⟩
    | true =>
      obtain ⟨isolated, same⟩ : (s.conf n).standing = .isolated ∧ (s.conf n).recovery = mode := by
        simpa [Confinement.recovering] using counted
      have short : ¬target ≤ (u.conf n).count := fun reached =>
        notDue (State.mem_recovered.mpr ⟨standing.trans isolated, recovery.trans same, reached⟩)
      rw [standing, recovery, same]
      exact ⟨by omega, fun live => absurd isolated live⟩

/-! ### The recoveries by count (R89, R90) -/

/-- R90: the counting of a clean completion. -/
def State.countWitness (s : State) : State := { s with masters := mapBank witnessCount s.masters }

theorem State.witness_eq (s : State) : s.witness = s.countWitness.recoverDue .witness 128 .witness := rfl

theorem State.countWitness_conf (s : State) (n : Master) : s.countWitness.conf n = witnessCount (s.conf n) :=
  s.conf_mapBank witnessCount n

theorem State.countWitness_counts (s : State) : s.CountsMove s.countWitness := by
  refine ⟨rfl, fun n => ?_⟩
  rw [s.countWitness_conf, witnessCount]
  split <;> rfl

theorem State.witness_follow (s : State) : Follow s s.witness := by
  rw [s.witness_eq]
  refine .recoveries s.countWitness_counts (State.recoverDue_steps _ _ _ _)
    (State.recoverDue_bounded s.countWitness_counts rfl fun n other => ?_)
  rw [s.countWitness_conf, witnessCount, other]
  rfl

theorem quietCount_eq (silent : Bool) (c : Confinement) : quietCount silent c = { c with count := (quietCount silent c).count } := by
  unfold quietCount
  split <;> rfl

theorem State.countQuiet_counts (s : State) (first : Option Master) : s.CountsMove (s.countQuiet first) := by
  obtain ⟨silent, counts, -, -, -, -, frame⟩ := State.countOne_fold first allMasters (by decide) s
  refine ⟨frame, fun n => ?_⟩
  rw [State.countQuiet, counts n (mem_allMasters n)]
  exact quietCount_eq _ _

theorem State.countQuiet_others (s : State) (first : Option Master) (n : Master) (other : (s.conf n).recovering .quiet = false) :
    ((s.countQuiet first).conf n).count = (s.conf n).count := by
  obtain ⟨silent, counts, -⟩ := State.countOne_fold first allMasters (by decide) s
  rw [State.countQuiet, counts n (mem_allMasters n), quietCount, other]
  rfl

/-- R89: the QUIET recoveries of a tick, with the joinings that follow where there is one. -/
theorem State.recoverQuiet_eq (s : State) :
    s.recoverQuiet = if s.recovered .quiet 256 = [] then s else (s.recoverDue .quiet 256 .quiet).joinWaiters := by
  unfold State.recoverQuiet
  split
  · rename_i none_due
    exact (if_pos none_due).symm
  · rename_i some_due
    exact (if_neg some_due).symm

theorem State.recoverDue_nil {mode : RecoveryMode} {target : Nat} (s : State) (cause : StandingCause)
    (none_due : s.recovered mode target = []) : s.recoverDue mode target cause = s := by
  rw [State.recoverDue, none_due]
  rfl

/-- R89: the counts of a tick with their recoveries and what follows of these. -/
theorem State.quiet_follows (s : State) (first : Option Master) : ReflTransGen Follow s (s.countQuiet first).recoverQuiet := by
  have recovered : Follow s ((s.countQuiet first).recoverDue .quiet 256 .quiet) :=
    .recoveries (s.countQuiet_counts first) (State.recoverDue_steps _ _ _ _)
      (State.recoverDue_bounded (s.countQuiet_counts first) rfl (s.countQuiet_others first))
  rw [State.recoverQuiet_eq]
  split
  · rename_i none_due
    rw [State.recoverDue_nil _ _ none_due] at recovered
    exact .single recovered
  · exact .trans (.single recovered) (State.joinWaiters_follows _)

/-! ### Port clears, and the end of a reset -/

theorem State.portClear_follows (s : State) (p : Master) : ReflTransGen Follow s (s.portClear p) :=
  .tail (.single (.clear s p)) (State.hand_follow _ _)

theorem State.goOn_follows (s : State) : ReflTransGen Follow s s.goOn := by
  have promoted : ReflTransGen Follow s { s with ports := mapBank Port.promote s.ports } := .single (.promote s)
  refine .trans ?_ (State.joinWaiters_follows _)
  exact inFreeOrder_keeps (ReflTransGen Follow s) _ _ _ _ promoted (fun u d steps => steps.tail (u.draws_follow d))
    fun u p _ steps => steps.trans (u.portClear_follows p)

end

end Sys2Proof.Machine
end

section
/-! SUPPORT. The link after each event at its lines (R170, R171): what its frame and its retained answer are is kept. -/

namespace Sys2Proof.Machine

section
variable {s : State} {l : Link} {f : Frame}

theorem Link.Sound.no_frame (h : l.Sound) (deasserted : l.ssel = false) : l.frame = none := (h.1 deasserted).1

/-- R171: with no frame in progress there is a retained answer. -/
theorem Link.Sound.retained_of_no_frame (h : l.Sound) (no_frame : l.frame = none) : l.retained ≠ none := by
  intro discarded
  have under_way := h.2.2.mp discarded
  simp [Link.inCommandFrame, no_frame] at under_way

/-- R171: the retained answer is discarded exactly in a command frame. -/
theorem Link.Sound.retained_iff (h : l.Sound) (frame : l.frame = some f) : l.retained = none ↔ isCommandFrame f.bytes = true := by
  have under_way := h.2.2
  rwa [Link.inCommandFrame, frame] at under_way

theorem Link.Sound.frame_bounds (h : l.Sound) (frame : l.frame = some f) :
    f.bits.length < 8 ∧ f.bytes.length = min 11 f.count := h.2.1 f frame

/-- R170: with a frame ended, there is none in progress, and the answer that is retained then stays. -/
theorem Link.sound_of_ended (no_frame : l.frame = none) (retained : l.retained ≠ none) (sdout : l.ssel = false → l.sdout = none) :
    l.Sound :=
  ⟨fun deasserted => ⟨no_frame, sdout deasserted⟩, by simp [no_frame], by simp [retained, Link.inCommandFrame, no_frame]⟩

theorem State.answered_link_sound (u : State) (bytes : List Byte) (a : Answer) : (u.answered bytes a).link.Sound :=
  Link.sound_of_ended rfl (by simp) fun _ => rfl

theorem isCommandFrame_append (bytes : List Byte) (b : Byte) (started : bytes ≠ []) :
    isCommandFrame (bytes ++ [b]) = isCommandFrame bytes := by
  cases bytes with
  | nil => exact absurd rfl started
  | cons a rest => rfl

/-- R170, R171: a bit taken into a frame keeps the link sound. -/
theorem Link.Sound.shift (h : l.Sound) (selected : l.ssel = true) (frame : l.frame = some f) (sdin : Bool) :
    (l.shift f sdin).Sound := by
  obtain ⟨bits, kept⟩ := h.frame_bounds frame
  have retained := h.retained_iff frame
  unfold Link.shift
  split
  · exact ⟨by simp [selected], by simpa using ⟨by omega, kept⟩, by simpa [Link.inCommandFrame] using retained⟩
  · refine ⟨by simp [selected], ?_, ?_⟩
    · simp only [Frame.complete, Config.frameKept, Option.mem_def, Option.some.injEq, forall_eq']
      by_cases room : f.count < 11
      · simp [room]; omega
      · simp [room]; omega
    · simp only [Link.inCommandFrame, Frame.complete, Config.frameKept]
      by_cases first : f.count = 0
      · have empty : f.bytes = [] := List.eq_nil_of_length_eq_zero (by omega)
        rw [empty] at retained ⊢
        have answer : l.retained ≠ none := fun discarded => by simp [isCommandFrame] at retained; exact retained discarded
        simp [first, isCommandFrame, answer]
      · have started : f.bytes ≠ [] := fun empty => by simp [empty] at kept; omega
        simp only [first, false_and, if_false]
        by_cases room : f.count < 11
        · simpa only [room, if_true, isCommandFrame_append _ _ started] using retained
        · simpa only [room, if_false] using retained

/-- R171: a frame that may begin with 00h is no command frame. -/
theorem Frame.begins_not_command {bytes : List Byte} {tail : List Bool} (h : f.begins (0#8 :: bytes) tail = true)
    (kept : f.bytes.length = min 11 f.count) : isCommandFrame f.bytes = false := by
  cases count : f.count with
  | zero =>
    rw [List.eq_nil_of_length_eq_zero (l := f.bytes) (by omega)]
    rfl
  | succ n =>
    have bytes : f.bytes = ((0#8 :: bytes).take f.count).take 11 := by
      simp only [Frame.begins, Config.frameKept, Bool.and_eq_true, beq_iff_eq] at h
      exact h.1.2
    rw [bytes, count]
    rfl

theorem State.sclkFall_link_sound (h : s.link.Sound) : s.sclkFall.link.Sound := by
  cases high : s.link.sclk with
  | false => rwa [s.sclkFall_low high]
  | true =>
    obtain ⟨-, e⟩ | ⟨f, -, selected, -, e⟩ | ⟨-, selected, -, e⟩ := s.sclkFall_cases high <;> rw [e]
    · exact h
    · exact ⟨by simp [selected], h.2⟩
    · exact ⟨by simp [selected], h.2⟩

theorem State.sample_link_sound (h : s.link.Sound) (sdin : Bool) : (s.sample sdin).link.Sound := by
  obtain ⟨f, -, selected, frame, e⟩ | ⟨-, e⟩ := s.sample_cases sdin <;> rw [e]
  · exact h.shift selected frame sdin
  · exact h

theorem State.sample_frame (s : State) (sdin : Bool) : s.sample sdin = { s with link := (s.sample sdin).link } := by
  obtain ⟨f, -, -, -, e⟩ | ⟨-, e⟩ := s.sample_cases sdin <;> rw [e]

end

end Sys2Proof.Machine
end

section
/-! SUPPORT. Every command answers a next state, and leads to it by its moves and what follows of them. -/

namespace Sys2Proof.Machine

open Relation (ReflTransGen)

/-- The outcome is a next state, to which the command `c` leads from `s`. -/
def Carried (c : Instr) (s : State) (o : Host.Outcome State Fault Refusal) : Prop := ∃ t, o = .next t ∧ Course c s t

section
variable {c : Instr} {s t u : State} {p m : Master} {k : SlotIx} {x : Slot}

theorem Course.carried (course : Course c s t) : Carried c s (.next t) := ⟨t, rfl, course⟩

theorem Carried.refl : Carried c s (.next s) := Course.refl.carried

theorem Course.joinWaiters (course : Course c s t) : Course c s t.joinWaiters := course.follows t.joinWaiters_follows

theorem Course.fault (course : Course c s t) (m : Master) (w : Nat) (record : Nat → RecordBody) :
    Course c s (t.fault m w record) := course.follows (t.fault_follows m w record)

/-! ### At the master ports -/

/-- A port is written with its write-data list and its CUT line as they stand. -/
theorem Course.setPort (course : Course c s t) {x : Port} (list : x.writeList = (t.port p).writeList)
    (cut : x.cut = (t.port p).cut) : Course c s (t.setPort p x) :=
  course.follow (.port t p x (list ▸ .same) cut)

@[simp] theorem State.freeSlot_port (s : State) (k : SlotIx) (p : Master) : (s.freeSlot k).port p = s.port p := by
  unfold State.freeSlot
  split <;> rfl

theorem Course.offerNext (course : Course c s t) : Course c s (t.offerNext p) := by
  obtain ⟨item, e⟩ := t.offerNext_port p
  rw [e]
  exact course.setPort rfl rfl

theorem carried_requestPresentation (p : Master) (r : Request) : Carried c s (execRequestPresentation p r s) := by
  unfold execRequestPresentation
  split
  · exact .refl
  · split
    · exact Course.carried (Course.setPort .refl rfl rfl)
    · exact Course.carried (Course.joinWaiters (Course.setPort .refl rfl rfl))

theorem carried_admissionEvent (p : Master) : Carried c s (execAdmissionEvent p s) := by
  unfold execAdmissionEvent
  split
  · rename_i r k due free
    exact ((Course.of_move (.allocate s p k r due free)).follows (State.handOver_follows _ p r _)).joinWaiters.carried
  · exact .refl

/-- R38: the conditions of a CUTOFF event. -/
theorem State.cutoffDue_eq_some {r : Request} :
    s.cutoffDue p = some r ↔
      (s.port p).head = some r ∧ (s.conf p).standing = .isolated ∧ s.resetPin = false ∧ (s.port p).pclr = false ∧
        (s.port p).offer = none ∧ (r.kind = .write → (s.port p).writeList.length < 4) := by
  unfold State.cutoffDue
  cases head : (s.port p).head with
  | none => simp
  | some r' => cases kind : r'.kind <;> simp [Config.writeListCapacity, and_assoc] <;> grind

theorem State.setConf_self (s : State) (m : Master) : s.setConf m (s.conf m) = s := by
  have same : s.masters.set m s.masters[m] = s.masters := by simp
  rw [State.setConf, State.conf, same]

theorem carried_cutoffEvent (p : Master) : Carried c s (execCutoffEvent p s) := by
  unfold execCutoffEvent
  cases due : s.cutoffDue p with
  | none => exact .refl
  | some r =>
    obtain ⟨-, -, -, -, -, room⟩ := State.cutoffDue_eq_some.mp due
    have list : ListShift (s.port p).writeList
        ((s.port p).writeList ++ if r.kind = .write then [ListEntry.discard] else []) := by
      cases kind : r.kind with
      | read => simpa using ListShift.same
      | write => simpa using ListShift.push (room kind)
    simp only
    generalize written : s.setPort p _ = s1
    have taken : Course c s s1 := written ▸ Course.follow .refl (.port s p _ list rfl)
    by_cases quiet : (s1.conf p).recovery = .quiet
    · rw [if_pos quiet]
      exact Course.carried (taken.follow (.silence s1 p))
    · rw [if_neg quiet]
      have stays : Course c s (s1.setConf p (s1.conf p)) := by rwa [s1.setConf_self p]
      exact Course.carried stays

theorem Slot.takeBeat_eq (x : Slot) (b : DataBeat) :
    x.takeBeat b = { x with
      progress := x.progress + 1
      words := if x.outcome = none then x.words ++ [b.word] else x.words
      enables := if x.outcome = none then x.enables ++ [b.enables] else x.enables } := by
  unfold Slot.takeBeat
  cases x.outcome <;> rfl

theorem carried_fillBeat (rest : List ListEntry) (b : DataBeat) (head : (s.port p).writeList = .fill k :: rest)
    (live : s.slot k = some x) : Course c s (s.fillBeat p k x rest b) := by
  have progress : (x.takeBeat b).progress = x.progress + 1 := by rw [x.takeBeat_eq]
  have beats : (x.takeBeat b).beats = x.beats := by rw [x.takeBeat_eq]
  have ends {y : Slot} {l : List ListEntry} (h : FillEnds s (x.takeBeat b) rest y l) :
      Course c s ((s.setSlot k (some y)).setWriteList p l) := .of_move (.fillEnd s p k x y rest l b head live h)
  unfold State.fillBeat
  simp only
  split
  · rename_i more
    split
    · exact (ends (.malformed .short)).fault ..
    · exact .of_move (.fillMore s p k x rest b head live (progress ▸ more))
  · rename_i all
    split
    · exact ends (.filled (by rw [beats]; omega))
    · exact (ends (.long .long)).fault ..

theorem carried_writeDataBeat (p : Master) (b : DataBeat) : Carried c s (execWriteDataBeat p b s) := by
  unfold execWriteDataBeat
  split
  · exact .refl
  · split
    · exact .refl
    · rename_i rest head
      split
      · have popped : ListShift (s.port p).writeList rest := head ▸ .pop
        exact Course.carried (Course.joinWaiters (Course.follow .refl (.port s p _ popped rfl)))
      · exact Course.refl.joinWaiters.carried
    · rename_i k rest head
      split
      · exact .refl
      · rename_i x live
        exact (carried_fillBeat rest b head live).joinWaiters.carried

theorem carried_fillingStall (k : SlotIx) : Carried c s (execFillingStall k s) := by
  unfold execFillingStall
  split
  · exact .refl
  · rename_i x live
    split
    · rename_i expired
      exact ((Course.of_move (.stall s k x live expired.1)).fault ..).joinWaiters.carried
    · exact .refl

theorem carried_deliveringStall (k : SlotIx) : Carried c s (execDeliveringStall k s) := by
  unfold execDeliveringStall
  split
  · exact .refl
  · rename_i x live
    split
    · rename_i expired
      have freed : Course c s (s.freeSlot k) := .of_move (.free s k x live expired.1)
      simp only
      generalize written : (s.freeSlot k).setPort x.master _ = s2
      have withdrawn : Course c s s2 := written ▸ freed.setPort rfl rfl
      exact Course.carried (Course.joinWaiters (withdrawn.fault ..))
    · exact .refl

theorem State.deliverable_eq_some {r : Result} (h : s.deliverable p = some (k, x, r)) :
    s.slot k = some x ∧ x.phase = .ready ∧ x.outcome = some r := by
  unfold State.deliverable at h
  split at h
  · simp at h
  · split at h
    · simp at h
    · split at h
      · simp at h
      · rename_i live
        split at h
        · rename_i ready outcome
          simp only [Option.some.injEq, Prod.mk.injEq] at h
          obtain ⟨rfl, rfl, rfl⟩ := h
          exact ⟨live, ready, outcome⟩
        · simp at h

theorem carried_enterDelivering (p : Master) : Carried c s (execEnterDelivering p s) := by
  unfold execEnterDelivering
  split
  · exact .refl
  · rename_i k x r deliverable
    obtain ⟨live, ready, outcome⟩ := State.deliverable_eq_some deliverable
    have entered := Course.of_move (.deliver (c := c) s k x r live ready outcome)
    simp only
    split
    · exact entered.carried
    · exact entered.offerNext.carried

theorem State.deliveringIx_eq_some (h : s.deliveringIx p = some k) :
    ∃ x, s.slot k = some x ∧ x.master = p ∧ x.orphan = false ∧ x.phase = .delivering := by
  obtain ⟨x, live, owner, own, phase⟩ := (s.owns_iff p _ k).mp (List.find?_some h)
  exact ⟨x, live, owner, own, eq_of_beq phase⟩

theorem carried_responseItemTake (p : Master) : Carried c s (execResponseItemTake p s) := by
  unfold execResponseItemTake
  split
  · exact .refl
  · split
    · split
      · exact Course.carried (Course.setPort .refl rfl rfl)
      · rename_i k delivering
        obtain ⟨y, live', -, -, phase⟩ := State.deliveringIx_eq_some delivering
        split
        · exact Course.carried (Course.setPort .refl rfl rfl)
        · rename_i x live
          obtain rfl : y = x := by simpa [live] using live'.symm
          split
          · have freed : Course c s (s.freeSlot k) := .of_move (.free s k y live phase)
            exact Course.carried (Course.joinWaiters (freed.setPort (by simp) (by simp)))
          · exact (Course.of_move (.advance s k y live phase)).offerNext.carried
    · exact Course.refl.offerNext.carried

theorem carried_pclrAssertion (p : Master) : Carried c s (execPclrAssertion p s) := by
  unfold execPclrAssertion
  split
  · exact .refl
  · have asserted : Course c s (s.setPort p { s.port p with pclr := true }) := Course.refl.setPort rfl rfl
    simp only
    split
    · exact asserted.carried
    · exact (asserted.follows (State.portClear_follows _ p)).joinWaiters.carried

@[simp] theorem Port.promote_writeList (x : Port) : x.promote.writeList = x.writeList := by
  unfold Port.promote
  split
  · rfl
  · split <;> rfl

@[simp] theorem Port.promote_cut (x : Port) : x.promote.cut = x.cut := by
  unfold Port.promote
  split
  · rfl
  · split <;> rfl

theorem carried_pclrRelease (p : Master) : Carried c s (execPclrRelease p s) := by
  unfold execPclrRelease
  split
  · have released : Course c s (s.setPort p { s.port p with pclr := false }) := Course.refl.setPort rfl rfl
    simp only
    split
    · exact released.carried
    · exact Course.carried (Course.joinWaiters (released.setPort (by simp) (by simp)))
  · exact .refl

/-! ### At the memory -/

theorem carried_grant : Carried c s (execGrant s) := by
  unfold execGrant
  split
  · rename_i w idle _
    split
    · exact .refl
    · rename_i k candidate
      split
      · exact .refl
      · rename_i x live
        exact (Course.of_move (.grant s w k x idle candidate live)).carried
  · exact .refl

/-- A move of the memory port alone. -/
theorem Course.of_port (mem : MemPort) (sound : s.mem.sound = true → mem.sound = true)
    (failed : mem.state = .failed ↔ s.mem.state = .failed) (busy : mem.state = .busy ↔ s.mem.state = .busy)
    (received : mem.state = .busy → mem.received = s.mem.received) : Course c s { s with mem := mem } := by
  have moved := Course.of_move
    (.memory (c := c) s mem s.health sound id (fun agree => failed.trans agree) busy received)
  rwa [State.assess_of_no_failure (s := { s with mem := mem }) (h := s.health) id] at moved

theorem carried_issueTake : Carried c s (execIssueTake s) :=
  Course.carried (Course.of_port { s.mem with issueOffered := false } (by cases h : s.mem.state <;> simp +contextual [MemPort.sound, h])
    Iff.rfl Iff.rfl fun _ => rfl)

theorem carried_writeDataTake : Carried c s (execWriteDataTake s) := by
  unfold execWriteDataTake
  split
  · exact (Course.of_port { s.mem with taken := s.mem.taken + 1 } id Iff.rfl Iff.rfl fun _ => rfl).carried
  · exact .refl

theorem carried_abortAcknowledge : Carried c s (execAbortAcknowledge s) := by
  unfold execAbortAcknowledge
  cases draining : s.mem.state with
  | draining =>
    simp only
    split
    · have held : Course c s { s with mem := { MemPort.fresh with state := .held } } :=
        .of_port _ (fun _ => rfl) (by simp [draining]) (by simp [draining]) (by simp)
      exact (held.follow (State.raiseHeld_follow _)).carried
    · exact Course.carried (Course.of_port MemPort.fresh (fun _ => rfl) (by simp [draining, MemPort.fresh])
        (by simp [draining, MemPort.fresh]) (by simp [MemPort.fresh]))
  | idle => exact .refl
  | busy => exact .refl
  | held => exact .refl
  | failed => exact .refl

/-- R136, R137: a change of the memory standing, with its records. -/
theorem Course.memStandingChanged {mem : MemPort} {h : Health} (cause : MemoryCause) (changed : h.standing ≠ s.health.standing)
    (course : Course c s (State.assess { s with mem := mem } h)) :
    Course c s (State.memStandingChanged { s with mem := mem, health := h } s.health.standing cause) := by
  rw [State.memStandingChanged_eq]
  have assessed : State.assess { s with mem := mem } h =
      if h.standing = .failed then State.failQueued { s with mem := mem, health := h } else { s with mem := mem, health := h } := by
    split
    · rename_i failed
      exact State.assess_of_failure failed fun before => changed (failed.trans before.symm)
    · rename_i live
      exact State.assess_of_no_failure fun failed => absurd failed live
  rw [assessed] at course
  exact (course.follow (State.hand_follow _ _)).follow (State.raiseMemory_follow _)

theorem carried_abortTimeout : Carried c s (execAbortTimeout s) := by
  unfold execAbortTimeout
  split
  · rename_i draining _
    have failed : Runs c s .done (State.assess { s with mem := { MemPort.fresh with state := .failed, abort := true } } ⟨255, .failed⟩) :=
      .move .start (.memory s _ _ (fun _ => rfl) (fun _ => rfl) (by simp) (by simp [draining]) (by simp))
    by_cases before : s.health.standing = .failed
    · rw [State.assess_withMem fun _ => before] at failed
      rw [State.memStandingChanged_eq, if_pos rfl]
      have fallen : Course c s _ := .inr (failed.failQueued rfl)
      exact Course.carried (Course.follow (fallen.follow (State.hand_follow _ _)) (State.raiseMemory_follow _))
    · exact Course.carried (Course.memStandingChanged .abortTimeout (by simpa [eq_comm] using before) (.inr failed))
  · exact .refl

end

end Sys2Proof.Machine
end

section
/-! SUPPORT. The courses of the completion events, of the ticks, of the commands of the link and of the resets; and so of every command. -/

namespace Sys2Proof.Machine

open Relation (ReflTransGen)

section
variable {c : Instr} {s t u : State} {p m : Master} {k : SlotIx} {x : Slot}

/-! ### The end of a transaction at the memory -/

/-- R135: a memory that is not FAILED has a score of its standing after each class. -/
theorem Health.after_sound (h : Health) (cls : HealthClass) (live : h.standing ≠ .failed) (sound : h.sound = true) :
    (h.after cls).sound = true := by
  obtain ⟨score, standing⟩ := h
  have most : classScore cls score ≤ 255 := by
    cases cls <;> cases standing <;> simp [classScore, Config.memoryScoreMax, Health.sound] at * <;> omega
  generalize next : classScore cls score = n at most
  simp only [Health.after, next]
  cases standing with
  | failed => exact absurd rfl live
  | sound =>
    by_cases failed : 192 ≤ n
    · simp [memStandingAfter, Config.failedAt, failed, Health.sound, most]
    · by_cases doubtful : 96 ≤ n <;>
        simp [memStandingAfter, Config.failedAt, Config.doubtfulAt, failed, doubtful, Health.sound] <;> omega
  | doubtful =>
    by_cases failed : 192 ≤ n
    · simp [memStandingAfter, Config.failedAt, failed, Health.sound, most]
    · by_cases again : n ≤ 63 <;>
        simp [memStandingAfter, Config.failedAt, Config.soundAgainAt, failed, again, Health.sound] <;> omega

/-- R134: the scoring of a class, once the transaction has ended. -/
theorem Runs.scoreMemory (runs : Runs c s .ending u) (cls : HealthClass) (record : Nat → Option RecordBody) :
    Runs c s .closing (u.scoreMemory cls record) := by
  have assessed : Runs c s .closing (u.assess (u.health.after cls)) := runs.move (.assess u _ (u.health.after_sound cls))
  have recorded := assessed.follows_closing (State.handSome_follows _ (record (u.health.after cls).score))
  rw [u.scoreMemory_eq]
  simp only
  split
  · exact recorded
  · exact (recorded.follow (State.hand_follow _ _)).follow (State.raiseMemory_follow _)

/-- R122: the port leaves BUSY. -/
theorem Runs.leaveBusy (runs : Runs c s .closing u) : Course c s u.leaveBusy := by
  obtain ⟨failed, e⟩ | ⟨live, -, e⟩ | ⟨live, -, e⟩ := u.leaveBusy_cases <;> rw [e]
  · exact .inr (runs.move (.close u { MemPort.fresh with state := .failed } rfl (by simp) (by simp [failed])))
  · have held := runs.move (.close u { MemPort.fresh with state := .held } rfl (by simp) (by simp [live]))
    exact Course.follow (.inr held) (State.raiseHeld_follow _)
  · exact .inr (runs.move (.close u MemPort.fresh rfl (by simp [MemPort.fresh]) (by simp [MemPort.fresh, live])))

/-- R123 step 3: the port at a memory timeout. -/
theorem Runs.timeoutPort (runs : Runs c s .closing u) : Course c s u.timeoutPort := by
  unfold State.timeoutPort
  split
  · rename_i failed
    exact .inr (runs.move (.close u { MemPort.fresh with state := .failed, abort := true } rfl (by simp) (by simp [failed])))
  · rename_i live
    exact .inr (runs.move (.close u { MemPort.fresh with state := .draining, abort := true, timer := some u.time.memoryTimeout, holdPending := u.mem.holdPending } rfl (by simp) (by simp [live])))

/-- R121: the completion event, with the words `words` in the reservation. -/
theorem Runs.completion (runs : Runs c s .fresh u) (busy : u.mem.state = .busy) (issued : u.issued = some (k, x))
    (words : List Word) (full : x.wordsKept u.mem.received = true → x.kind = .read → words.length = x.beats.val) (r : Result)
    (corrected : Bool) (cls : HealthClass) (record : Nat → Option RecordBody) :
    Course c s (u.completion k { x with words := words } r corrected cls record) := by
  have ended : Runs c s .ending (u.endSlot k { x with words := words } r corrected) := by
    unfold State.endSlot
    simp only
    split
    · exact runs.move (.dropOrphan u k x busy issued)
    · rename_i own
      exact runs.move (.finish u k x r corrected words busy issued (by simpa using own) full)
  have scored := ended.scoreMemory cls record
  unfold State.completion
  simp only
  split
  · have cleaned := scored.follows_closing (State.cleanCompletion_follows _ x.master)
    exact Course.joinWaiters (cleaned.follow (State.witness_follow _)).leaveBusy
  · exact Course.joinWaiters scored.leaveBusy

theorem State.issued_eq_some :
    s.issued = some (k, x) ↔ s.issuedIx = some k ∧ s.slot k = some x := by
  unfold State.issued
  cases first : s.issuedIx with
  | none => simp
  | some j =>
    simp only [Option.map_eq_some_iff, Prod.mk.injEq, Option.some.injEq]
    constructor
    · rintro ⟨y, live, rfl, rfl⟩; exact ⟨rfl, live⟩
    · rintro ⟨rfl, live⟩; exact ⟨x, live, rfl, rfl⟩

/-- A write of the ISSUED slot that leaves it ISSUED leaves it the ISSUED slot of the unit. -/
theorem State.issued_setSlot {y : Slot} (issued : s.issued = some (k, x)) (phase : y.phase = .issued) :
    (s.setSlot k (some y)).issued = some (k, y) := by
  obtain ⟨first, -⟩ := State.issued_eq_some.mp issued
  obtain ⟨live, before⟩ := s.issued_some k x issued
  refine State.issued_eq_some.mpr ⟨?_, s.setSlot_slot_self k _⟩
  rw [← first]
  unfold State.issuedIx
  congr 1
  funext j
  by_cases self : j = k
  · subst self; simp [live, before, phase]
  · rw [s.setSlot_slot_ne k _ self]

/-- R116: a kept beat leaves the transaction at the memory, with its word and its beat account. -/
theorem State.storeBeat_issued (busy : s.mem.state = .busy) (issued : s.issued = some (k, x)) (word : Word) (status : BitVec 2) :
    ∃ y, (s.storeBeat k x word status).mem.state = .busy ∧ (s.storeBeat k x word status).issued = some (k, y) ∧
      y = { x with words := y.words, progress := y.progress } ∧ (s.storeBeat k x word status).fill = s.fill := by
  obtain ⟨-, e⟩ | ⟨-, e⟩ := s.storeBeat_cases k x word status <;> rw [e]
  · exact ⟨x, busy, issued, rfl, rfl⟩
  · exact ⟨{ x with words := x.words ++ [word], progress := s.mem.received + 1 }, busy,
      State.issued_setSlot (y := { x with words := x.words ++ [word], progress := s.mem.received + 1 }) issued
        (s.issued_some k x issued).2, rfl, rfl⟩

/-- R29, R116: an ISSUED read holds a word for each beat received. -/
theorem Slot.wordsKept_issued_read {received : Nat} (kept : x.wordsKept received = true) (issued : x.phase = .issued)
    (read : x.kind = .read) : x.words.length = received ∧ received ≤ x.beats.val := by
  simp only [Slot.wordsKept, issued, read, Bool.and_eq_true, beq_iff_eq, decide_eq_true_eq] at kept
  obtain ⟨-, ⟨⟨words, -⟩, within⟩, -⟩ := kept
  exact ⟨words, within⟩

theorem Course.readBeatArrives (word : Word) (status : BitVec 2) (last : Bool) :
    Course c s (s.readBeatArrives word status last) := by
  unfold State.readBeatArrives
  split
  · rename_i k x busy issued
    split
    · exact .refl
    · rename_i read
      have stored : Runs c s .fresh (s.storeBeat k x word status) := .move .start (.storeBeat s k x word status busy issued read)
      obtain ⟨y, busy', issued', same, -⟩ := State.storeBeat_issued busy issued word status
      obtain ⟨live, phase⟩ := State.issued_some _ k y issued'
      have read' : y.kind = .read := by rw [same]; exact read
      simp only [live]
      split
      · refine stored.completion busy' issued' _ (fun kept _ => ?_) ..
        obtain ⟨words, within⟩ := Slot.wordsKept_issued_read kept phase read'
        simp [words]; omega
      · exact .inl stored
  · exact .refl

theorem Course.writeAckArrives (ok : Bool) : Course c s (s.writeAckArrives ok) := by
  unfold State.writeAckArrives
  split
  · rename_i k x busy issued
    split
    · exact .refl
    · rename_i write
      exact Runs.completion .start busy issued x.words (fun _ read => by simp [write] at read) ..
  · exact .refl

theorem Course.itemArrives (item : MemoryItem) : Course c s (s.itemArrives item) := by
  cases item with
  | readBeat word status last => exact .readBeatArrives word status last
  | writeAck ok => exact .writeAckArrives ok

theorem carried_memoryTimeout : Carried c s (execMemoryTimeout s) := by
  unfold execMemoryTimeout
  split
  · rename_i k x busy _ issued
    have phase := (s.issued_some k x issued).2
    have ended : Runs c s .ending (s.timeoutSlot k x) := by
      unfold State.timeoutSlot
      split
      · exact .move .start (.dropOrphan s k x busy issued)
      · rename_i own
        refine .move .start (.finish s k x .timeout x.corrected _ busy issued (by simpa using own) fun kept read => ?_)
        simp only [Slot.wordsKept, phase, read, Bool.and_eq_true, beq_iff_eq] at kept
        simp [read, kept.2.2]
    exact Course.carried (Course.joinWaiters (ended.scoreMemory _ _).timeoutPort)
  · exact .refl

/-! ### Ticks -/

theorem Course.giveTick (first : Option Master) : Course c s (s.giveTick first) :=
  (Course.of_move (.timers s)).follows (State.quiet_follows _ first)

theorem carried_tick : Carried c s (execTick s) := by
  unfold execTick
  split
  · exact .refl
  · exact Course.carried (.giveTick none)

theorem carried_tclkEdge : Carried c s (execTclkEdge s) := by
  unfold execTclkEdge
  split
  · exact .refl
  · obtain ⟨below, e⟩ | ⟨-, e⟩ := s.tclkEdge_cases <;> rw [e]
    · exact Course.carried (.of_move (.edge s below))
    · exact Course.carried (.giveTick none)

theorem carried_quietRecovery (m : Master) : Carried c s (execQuietRecovery m s) := by
  unfold execQuietRecovery
  split
  · exact Course.carried (.giveTick (some m))
  · exact .refl

theorem carried_witnessRecovery (m : Master) (item : MemoryItem) : Carried c s (execWitnessRecovery m item s) := by
  unfold execWitnessRecovery
  split
  · exact Course.carried (.itemArrives item)
  · exact .refl

/-! ### The lines of the link -/

theorem Course.link (course : Course c s t) (l : Link) (sound : t.link.Sound → l.Sound) : Course c s { t with link := l } :=
  course.follow (.link t l sound)

theorem State.sclkFall_follows (s : State) : ReflTransGen Follow s s.sclkFall := by
  have frame : { s with link := s.sclkFall.link, draws := s.sclkFall.draws } = s.sclkFall := by rw [s.sclkFall_frame]
  have moved : ReflTransGen Follow s { s with link := s.sclkFall.link, draws := s.sclkFall.draws } :=
    .tail (.single (.link s _ State.sclkFall_link_sound)) (State.draws_follow { s with link := s.sclkFall.link } _)
  rwa [frame] at moved

theorem carried_commandFrameBegin (code : Byte) : Carried c s (execCommandFrameBegin code s) := by
  unfold execCommandFrameBegin
  split
  · rename_i accepted
    have notZero : code ≠ 0#8 := by
      simp only [State.acceptsCode, Bool.and_eq_true, bne_iff_ne] at accepted
      exact accepted.1.2
    refine Course.carried (Course.refl.link _ fun _ => ⟨by simp, ?_, ?_⟩)
    · simp [Frame.complete, Frame.fresh, Config.frameKept]
    · simp [Link.inCommandFrame, Frame.complete, Frame.fresh, Config.frameKept, isCommandFrame, notZero]
  · exact .refl

/-- The end of a frame that is no command frame. -/
theorem Course.deselect (given : List Byte) (kept : s.link.Sound → s.link.retained ≠ none) : Course c s (s.deselect given) :=
  Course.refl.link _ fun sound => Link.sound_of_ended rfl (kept sound) fun _ => rfl

theorem carried_readAnswerFrame (dummies : List Byte) (tail : List Bool) : Carried c s (execReadAnswerFrame dummies tail s) := by
  unfold execReadAnswerFrame
  split
  · rename_i accepted
    refine Course.carried (.deselect _ fun sound => ?_)
    cases selected : s.link.ssel with
    | false => exact sound.retained_of_no_frame (sound.no_frame selected)
    | true =>
      cases frame : s.link.frame with
      | none => exact sound.retained_of_no_frame frame
      | some f =>
        have begins : f.begins (0#8 :: dummies) tail = true := by
          simp only [State.accepts, selected, frame, Bool.and_eq_true] at accepted
          exact accepted.2.2
        have answers := Frame.begins_not_command begins (sound.frame_bounds frame).2
        intro discarded
        rw [sound.retained_iff frame, answers] at discarded
        exact absurd discarded (by decide)
  · exact .refl

theorem Course.answered (course : Course c s t) (bytes : List Byte) (a : Answer) : Course c s (t.answered bytes a) :=
  course.link _ fun _ => t.answered_link_sound bytes a

theorem carried_unknownCodeFrame (bytes : List Byte) (tail : List Bool) : Carried c s (execUnknownCodeFrame bytes tail s) := by
  unfold execUnknownCodeFrame
  split
  · split
    · exact Course.carried (Course.refl.answered bytes _)
    · exact Course.carried (Course.refl.answered bytes _)
    · exact .refl
  · exact .refl

theorem carried_sselAssertion : Carried c s (execSselAssertion s) := by
  unfold execSselAssertion
  split
  · exact .refl
  · rename_i deasserted
    have answer (sound : s.link.Sound) : s.link.retained ≠ none :=
      sound.retained_of_no_frame (sound.no_frame (by simpa using deasserted))
    split
    · exact Course.carried (Course.refl.link _ fun sound => Link.sound_of_ended rfl (answer sound) (by simp))
    · refine Course.carried (Course.refl.link _ fun sound => ⟨by simp [Link.start], ?_, ?_⟩)
      · simp [Link.start, Frame.fresh]
      · simp [Link.start, Frame.fresh, Link.inCommandFrame, isCommandFrame, answer sound]

theorem carried_sclkRisingEdge (sdin : Bool) : Carried c s (execSclkRisingEdge sdin s) := by
  have fallen : Course c s s.sclkFall := Course.refl.follows s.sclkFall_follows
  have risen : Course c s (s.sclkFall.setSclk true) := fallen.link _ id
  have sampled := risen.link _ fun sound => State.sample_link_sound sound sdin
  rw [← State.sample_frame] at sampled
  exact sampled.carried

theorem carried_ignoredFrameEnd : Carried c s (execIgnoredFrameEnd s) := by
  unfold execIgnoredFrameEnd
  split
  · rename_i ignored
    refine Course.carried (.deselect _ fun sound => ?_)
    cases frame : s.link.frame with
    | none => exact sound.retained_of_no_frame frame
    | some f =>
      have first : f.count = 0 := by
        cases selected : s.link.ssel <;> simp [Link.endIgnored, selected, frame] at ignored
        exact ignored
      have empty : f.bytes = [] := List.eq_nil_of_length_eq_zero (by rw [(sound.frame_bounds frame).2, first]; rfl)
      rw [Ne, sound.retained_iff frame, empty]
      decide
  · exact .refl

/-! ### The commands of the link -/

/-- R173: a command of the link takes the course of its effect, and retains its answer. -/
theorem carried_command (body : List Byte) {e : Effect} (acts : Course c s (e s).2) : Carried c s (.next (s.command body e)) := by
  cases accepted : s.accepts (withCheck body) [] with
  | false => rw [s.command_refuses body e accepted]; exact .refl
  | true => rw [s.command_takes body e accepted]; exact Course.carried (acts.answered _ _)

theorem Course.ranged {α : Type} {arg : Option α} {e : α → Effect} (acts : ∀ a, arg = some a → Course c s (e a s).2) :
    Course c s (ranged arg e s).2 := by
  cases read : arg with
  | none => exact .refl
  | some a => exact acts a read

theorem Course.peekEffect : Course c s (peekEffect s).2 := by
  unfold Machine.peekEffect
  split <;> exact .refl

theorem Course.popEffect (hc : c = .popFault) : Course c s (popEffect s).2 := by
  unfold Machine.popEffect
  split
  · exact .refl
  · rename_i r rest records
    exact .of_move (.pop s hc r rest records)

theorem Course.setModeEffect {b : Byte} (hc : c = .setMode b) (mode : Mode) : Course c s (setModeEffect mode s).2 := by
  unfold Machine.setModeEffect
  simp only
  split
  · exact .refl
  · exact (Course.of_move (.mode s b mode hc)).follow (State.hand_follow _ _)

theorem Course.writeWindow {index live rights : Byte} {base last : Addr} {iw : WindowIx × Window}
    (read : readWindowArgs index live base last rights = some iw) : Course c s (s.setWindow iw.1 iw.2) := by
  refine .of_move (.window s iw.1 iw.2 ?_)
  unfold readWindowArgs at read
  split at read
  · split at read
    · rename_i ordered
      obtain rfl := Option.some.inj read
      exact ordered
    · simp at read
  · simp at read

theorem Course.setTiming {k a b : Byte} {values : Nat × Nat × Nat} (read : readTimingArgs k a b = some values) :
    Course c s { s with time := { divider := values.1, count := 0, masterTimeout := values.2.1, memoryTimeout := values.2.2 } } := by
  unfold readTimingArgs at read
  split at read
  · rename_i ranges
    obtain rfl := Option.some.inj read
    exact .of_move (.timing s _ _ _ ranges.1 ⟨ranges.2.1, Nat.le_of_lt_succ a.isLt⟩ ⟨ranges.2.2, Nat.le_of_lt_succ b.isLt⟩)
  · simp at read

theorem Course.setDeferral {d : Byte} {n : Nat} (read : readDeferralArg d = some n) : Course c s { s with deferral := n } := by
  unfold readDeferralArg at read
  split at read
  · rename_i most
    obtain rfl := Option.some.inj read
    exact .of_move (.deferral s _ most)
  · simp at read

theorem Course.clearScoreEffect {b : Byte} (hc : c = .clearScore b) (m : Master) : Course c s (clearScoreEffect m s).2 := by
  cases standing : (s.conf m).standing with
  | active =>
    rw [clearScoreEffect_active standing]
    exact .of_move (.clearActive s b m hc standing)
  | limited =>
    rw [clearScoreEffect_limited standing]
    have cleared := Course.of_move (.clearLimited s b m hc standing)
    exact ((cleared.follow (State.hand_follow _ _)).follow (State.raiseRecovery_follow _)).joinWaiters
  | isolated =>
    rw [clearScoreEffect_isolated standing]
    exact .refl

theorem Course.isolateEffect {b : Byte} (hc : c = .isolate b) (m : Master) : Course c s (isolateEffect m s).2 := by
  have isolated (live : (s.conf m).standing ≠ .isolated) : Course c s (s.isolateMaster m .service).joinWaiters := by
    have cut := Course.of_move (.isolate s b m hc live)
    exact ((cut.follow (State.hand_follow _ _)).follow (State.raiseStanding_follow _)).joinWaiters
  unfold Machine.isolateEffect
  split
  · rename_i active; exact isolated (by simp [active])
  · rename_i limited; exact isolated (by simp [limited])
  · exact .refl

theorem Course.restoreEffect {b : Byte} (hc : c = .restore b) (m : Master) : Course c s (restoreEffect m s).2 := by
  unfold Machine.restoreEffect
  split
  · exact .refl
  · exact .refl
  · rename_i isolated
    have readmitted := Course.of_move (.restore s b m hc isolated)
    exact ((readmitted.follow (State.hand_follow _ _)).follow (State.raiseRecovery_follow _)).joinWaiters

theorem Course.holdEffect : Course c s (holdEffect s).2 := by
  unfold Machine.holdEffect
  split
  · rename_i idle
    have held : Course c s { s with mem := { s.mem with state := .held } } :=
      .of_port _ (by simp [MemPort.sound, idle]) (by simp [idle]) (by simp [idle]) (by simp)
    exact held.follow (State.raiseHeld_follow _)
  · rename_i busy
    exact .of_port _ (by simp [MemPort.sound, busy]) Iff.rfl Iff.rfl fun _ => rfl
  · rename_i draining
    exact .of_port _ (by simp [MemPort.sound, draining]) Iff.rfl Iff.rfl fun _ => rfl
  · exact .refl
  · exact .refl

theorem Course.releaseEffect : Course c s (releaseEffect s).2 := by
  unfold Machine.releaseEffect
  split
  · rename_i held
    exact .of_port _ (by simp [MemPort.sound, held]) (by simp [held]) (by simp [held]) (by simp)
  · rename_i busy
    exact .of_port _ (by simp [MemPort.sound, busy]) Iff.rfl Iff.rfl fun _ => rfl
  · rename_i draining
    exact .of_port _ (by simp [MemPort.sound, draining]) Iff.rfl Iff.rfl fun _ => rfl
  · exact .refl
  · exact .refl

theorem Course.restoreMemoryEffect : Course c s (restoreMemoryEffect s).2 := by
  have restored : Course c s (State.assess { s with mem := s.mem.restored } ⟨0, .sound⟩) :=
    .of_move (.memory s _ _
      (by cases h : s.mem.state <;> simp [MemPort.restored, h, MemPort.sound, MemPort.fresh]) (fun _ => rfl)
      (by cases h : s.mem.state <;> simp [MemPort.restored, h, MemPort.fresh])
      (by cases h : s.mem.state <;> simp [MemPort.restored, h, MemPort.fresh])
      (by cases h : s.mem.state <;> simp [MemPort.restored, h, MemPort.fresh]))
  unfold Machine.restoreMemoryEffect
  simp only
  split
  · rw [State.assess_withMem (by simp)] at restored
    exact restored
  · rename_i unsound
    exact restored.memStandingChanged .service (by simpa [eq_comm] using unsound)

/-! ### The resets -/

theorem carried_powerOnReset (hc : commandIsReset c = true) : Carried c s (execPowerOnReset s) := by
  have values (o : Origin) : Course c s (s.resetValues o Port.afterPower) := .of_move (.resetValues s hc o _ (.inl rfl))
  unfold execPowerOnReset
  split
  · exact Course.carried (values .pin)
  · exact Course.carried ((values .power).follows (State.goOn_follows _))

theorem carried_resetAssertion (hc : commandIsReset c = true) : Carried c s (execResetAssertion s) := by
  unfold execResetAssertion
  split
  · exact .refl
  · have asserted : Runs c s .fresh { s with resetPin := true } := .move .start (.resetAsserted s hc)
    exact Course.carried (.inr (asserted.move (.resetValues _ hc .pin _ (.inr rfl))))

theorem carried_resetRelease : Carried c s (execResetRelease s) := by
  unfold execResetRelease
  split
  · exact Course.carried ((Course.of_move (.resetReleased s)).follows (State.goOn_follows _))
  · exact .refl

/-! ### Every command -/

/-- Every command answers a next state, to which its moves and what follows of them lead. -/
theorem exec_carried (c : Instr) (s : State) : Carried c s (exec c s) := by
  cases hc : c with
  | requestPresentation p r => exact carried_requestPresentation p r
  | admissionEvent p => exact carried_admissionEvent p
  | cutoffEvent p => exact carried_cutoffEvent p
  | writeDataBeat p b => exact carried_writeDataBeat p b
  | fillingStall k => exact carried_fillingStall k
  | enterDelivering p => exact carried_enterDelivering p
  | responseItemTake p => exact carried_responseItemTake p
  | deliveringStall k => exact carried_deliveringStall k
  | pclrAssertion p => exact carried_pclrAssertion p
  | pclrRelease p => exact carried_pclrRelease p
  | grant => exact carried_grant
  | issueTake => exact carried_issueTake
  | writeDataTake => exact carried_writeDataTake
  | readBeat word status last => exact Course.carried (.readBeatArrives word status last)
  | writeAcknowledge ok => exact Course.carried (.writeAckArrives ok)
  | memoryTimeout => exact carried_memoryTimeout
  | abortAcknowledge => exact carried_abortAcknowledge
  | abortTimeout => exact carried_abortTimeout
  | tick => exact carried_tick
  | quietRecovery m => exact carried_quietRecovery m
  | witnessRecovery m item => exact carried_witnessRecovery m item
  | commandFrameBegin code => exact carried_commandFrameBegin code
  | readAnswerFrame dummies tail => exact carried_readAnswerFrame dummies tail
  | unknownCodeFrame bytes tail => exact carried_unknownCodeFrame bytes tail
  | readStatus => exact carried_command _ .refl
  | setMode mode => exact carried_command _ (.ranged fun m _ => .setModeEffect rfl m)
  | readMaster b => exact carried_command _ (.ranged fun _ _ => .refl)
  | setRecovery b r =>
    exact carried_command _ (.ranged fun m _ => .ranged fun mode _ => .of_move (.recoveryMode s m mode))
  | clearScore b => exact carried_command _ (.ranged fun m _ => .clearScoreEffect rfl m)
  | isolate b => exact carried_command _ (.ranged fun m _ => .isolateEffect rfl m)
  | restore b => exact carried_command _ (.ranged fun m _ => .restoreEffect rfl m)
  | writeWindow index live base last rights => exact carried_command _ (.ranged fun _ read => .writeWindow read)
  | readWindow index => exact carried_command _ (.ranged fun _ _ => .refl)
  | setFill fill => exact carried_command _ (.of_move (.fill s fill))
  | setTiming divider masterTimeout memoryTimeout => exact carried_command _ (.ranged fun _ read => .setTiming read)
  | setDeferral d => exact carried_command _ (.ranged fun _ read => .setDeferral read)
  | readSettings => exact carried_command _ .refl
  | holdMemory => exact carried_command _ .holdEffect
  | releaseMemory => exact carried_command _ .releaseEffect
  | restoreMemory => exact carried_command _ .restoreMemoryEffect
  | peekFault => exact carried_command _ .peekEffect
  | popFault => exact carried_command _ (.popEffect rfl)
  | setRecordMask mask => exact carried_command _ (.ranged fun m _ => .of_move (.mask s m))
  | readAlerts => exact carried_command _ .refl
  | clearAlerts flags => exact carried_command _ (.ranged fun f _ => .of_move (.clearFlags s flags f rfl))
  | setAlertEnables enables => exact carried_command _ (.ranged fun e _ => .of_move (.enables s e))
  | readSlot index => exact carried_command _ (.ranged fun _ _ => .refl)
  | resetPart => exact carried_command _ (.of_move (.serviceReset s rfl))
  | powerOnReset => exact carried_powerOnReset rfl
  | resetAssertion => exact carried_resetAssertion rfl
  | resetRelease => exact carried_resetRelease
  | sselAssertion => exact carried_sselAssertion
  | sclkRisingEdge sdin => exact carried_sclkRisingEdge sdin
  | ignoredFrameEnd => exact carried_ignoredFrameEnd
  | tclkEdge => exact carried_tclkEdge

theorem exec_course (e : exec c s = .next t) : Course c s t := by
  obtain ⟨u, answered, course⟩ := exec_carried c s
  obtain rfl := Host.Outcome.next.inj (answered.symm.trans e)
  exact course

/-- A step on an empty queue takes a falling edge of SCLK or idles, and another carries out the command at the front. -/
theorem step_cases (e : step s = .next t) :
    t = s.sclkFall ∨ ∃ c rest, Course c { s with pending := rest } t := by
  unfold step at e
  split at e
  · exact .inl (Host.Outcome.next.inj e).symm
  · rename_i c rest _
    exact .inr ⟨c, rest, exec_course e⟩

end

end Sys2Proof.Machine
end

section
/-! SUPPORT. A rule of the whole machine is proved move by move; here the frames of the moves that several such rules need. -/

namespace Sys2Proof.Machine

open Relation (ReflTransGen)

section
variable {c : Instr} {s t u : State} {a b : Stage} {m n p : Master} {k : SlotIx} {x : Slot}

/-! ### From moves to commands and steps -/

theorem Recovery.all_keep {P : State → Prop} (step : ∀ s t, Recovery s t → P s → P t) (steps : ReflTransGen Recovery s t)
    (start : P s) : P t := by
  induction steps with
  | refl => exact start
  | tail _ last ih => exact step _ _ last ih

/-- What every move keeps, and the queue of waiting commands does not matter to, every step keeps. -/
theorem step_keeps {P : State → Prop} (move : ∀ c a u b v, Move c a u b v → P u → P v)
    (pending : ∀ (s : State) l, P s → P { s with pending := l }) (start : P s) (e : step s = .next t) : P t := by
  obtain rfl | ⟨c, rest, course⟩ := step_cases e
  · exact (Course.refl (c := .tick).follows s.sclkFall_follows).keeps_state P start (move _)
  · exact course.keeps_state P (pending s rest start) (move c)

/-! ### Slots -/

/-- R6: freeing a slot leaves the others. -/
theorem State.freeSlot_slot (s : State) (k j : SlotIx) : (s.freeSlot k).slot j = if j = k then none else s.slot j := by
  cases live : s.slot k with
  | none =>
    rw [s.freeSlot_free k live]
    split
    · rename_i self; rw [self, live]
    · rfl
  | some x =>
    rw [s.freeSlot_live k x live]
    by_cases self : j = k
    · subst self; rw [if_pos rfl]; exact s.setSlot_slot_self j none
    · rw [if_neg self]; exact s.setSlot_slot_ne k none self

theorem State.setSlot_slot (s : State) (k j : SlotIx) (o : Option Slot) :
    (s.setSlot k o).slot j = if j = k then o else s.slot j := by
  by_cases self : j = k
  · subst self; simp
  · rw [if_neg self, s.setSlot_slot_ne k o self]

theorem State.setPort_port (s : State) (p q : Master) (x : Port) :
    (s.setPort p x).port q = if q = p then x else s.port q := by
  by_cases self : q = p
  · subst self; simp
  · rw [if_neg self, s.setPort_port_ne p x self]

theorem State.setConf_conf (s : State) (m n : Master) (r : Confinement) :
    (s.setConf m r).conf n = if n = m then r else s.conf n := by
  by_cases self : n = m
  · subst self; simp
  · rw [if_neg self, s.setConf_conf_ne m r self]

/-- Freeing a slot touches the slots and the data buffer alone. -/
theorem State.freeSlot_frame (s : State) (k : SlotIx) :
    s.freeSlot k = { s with slots := (s.freeSlot k).slots, freeWords := (s.freeSlot k).freeWords } := by
  cases live : s.slot k with
  | none => rw [s.freeSlot_free k live]
  | some x => rw [s.freeSlot_live k x live]; rfl

/-- A read beat touches the slots and the memory port alone. -/
theorem State.storeBeat_frame (s : State) (k : SlotIx) (x : Slot) (word : Word) (status : BitVec 2) :
    s.storeBeat k x word status =
      { s with slots := (s.storeBeat k x word status).slots, mem := (s.storeBeat k x word status).mem } := by
  obtain ⟨-, e⟩ | ⟨-, e⟩ := s.storeBeat_cases k x word status <;> rw [e]
  rfl

/-- R4, R23: the conditions of an admission give a head request of a master that is not ISOLATED, under its slot limit and within the
data buffer. -/
theorem State.ready17_of_admissible {r : Request} (due : s.admissible p = some r) :
    s.ready17 p = some r ∧ s.need p r ≤ s.freeWords := by
  unfold State.admissible at due
  split at due
  · simp at due
  · rename_i r' ready
    split at due
    · rename_i fits
      obtain rfl := Option.some.inj due
      simp only [State.ready89, Bool.and_eq_true, decide_eq_true_eq] at fits
      exact ⟨ready, fits.1⟩
    · simp at due

theorem State.ready17_facts {r : Request} (ready : s.ready17 p = some r) :
    (s.port p).head = some r ∧ (s.conf p).standing ≠ .isolated ∧ s.held p < slotLimit (s.conf p).standing ∧
      (r.kind = .write → (s.port p).writeList.length < 4) := by
  unfold State.ready17 at ready
  split at ready
  · simp at ready
  · rename_i r' head
    split at ready
    · rename_i conditions
      obtain rfl := Option.some.inj ready
      simp only [Bool.and_eq_true, bne_iff_ne, State.underLimit, decide_eq_true_eq, Bool.or_eq_true, beq_iff_eq,
        Config.writeListCapacity] at conditions
      obtain ⟨⟨⟨⟨-, live⟩, -⟩, limit, -⟩, room⟩ := conditions
      exact ⟨head, live, limit, fun write => of_decide_eq_true (room.resolve_left (by simp [write]))⟩
    · simp at ready

theorem State.mustJoin_facts (due : s.mustJoin p = true) : p ∉ s.waitList ∧ (s.conf p).standing ≠ .isolated := by
  unfold State.mustJoin at due
  split at due
  · simp at due
  · rename_i r ready
    simp only [Bool.and_eq_true, Bool.not_eq_true', List.contains_eq_mem, decide_eq_false_iff_not] at due
    exact ⟨due.2, (State.ready17_facts ready).2.1⟩

theorem State.lowestFree_some (free : s.lowestFree = some k) : s.slot k = none ∧ ∀ j, j < k → s.slot j ≠ none := by
  have order : allSlots = List.finRange 16 := by decide
  rw [State.lowestFree, order, ← Fin.find?_eq_find?_finRange, Fin.find?_eq_some_iff] at free
  exact ⟨by simpa using free.1, fun j earlier => by simpa [Option.isSome_iff_ne_none] using free.2 j earlier⟩

/-! ### Deferral counts at a grant (R104) -/

/-- R104: the deferral count of one master at a grant to the master `w`. -/
def State.deferOne (w : Master) (s : State) (m : Master) : State :=
  let c := s.conf m
  if m = w then
    match c.standing with
    | .limited => s.setConf m { c with deferral := s.deferral }
    | .active => s
    | .isolated => s
  else s.setConf m { c with deferral := c.deferral - 1 }

theorem State.deferAt_eq (s : State) (w : Master) : s.deferAt w = allMasters.foldl (State.deferOne w) s := rfl

/-- R104: the record of master `m` after a grant to the master `w`, with the deferral setting `d`. -/
def Confinement.deferredAt (c : Confinement) (d : Nat) (w m : Master) : Confinement :=
  { c with deferral := if m = w then (if c.standing = .limited then d else c.deferral) else c.deferral - 1 }

theorem State.deferOne_eq (s : State) (w m : Master) :
    s.deferOne w m = s.setConf m ((s.conf m).deferredAt s.deferral w m) := by
  by_cases winner : m = w
  · subst winner
    by_cases limited : (s.conf m).standing = .limited
    · simp [State.deferOne, Confinement.deferredAt, limited]
    · have kept : (s.conf m).deferredAt s.deferral m m = s.conf m := by simp [Confinement.deferredAt, limited]
      rw [kept, s.setConf_self m, State.deferOne]
      simp only [if_true]
      split
      · rename_i contra; exact absurd contra limited
      · rfl
      · rfl
  · simp [State.deferOne, Confinement.deferredAt, winner]

theorem State.deferOne_fold (w : Master) (l : List Master) (nodup : l.Nodup) (s : State) :
    l.foldl (State.deferOne w) s = { s with masters := (l.foldl (State.deferOne w) s).masters } ∧
      ∀ n, (l.foldl (State.deferOne w) s).conf n = if n ∈ l then (s.conf n).deferredAt s.deferral w n else s.conf n := by
  induction l generalizing s with
  | nil => exact ⟨rfl, fun n => rfl⟩
  | cons m l ih =>
    obtain ⟨notLater, nodup⟩ := List.nodup_cons.mp nodup
    obtain ⟨frame, conf⟩ := ih nodup (s.deferOne w m)
    rw [State.deferOne_eq] at frame conf
    rw [List.foldl_cons, State.deferOne_eq]
    refine ⟨by rw [frame]; rfl, fun n => ?_⟩
    rw [conf n, s.setConf_conf m n]
    by_cases self : n = m
    · subst self; simp [notLater]
    · simp [self]

theorem State.deferAt_frame (s : State) (w : Master) : s.deferAt w = { s with masters := (s.deferAt w).masters } :=
  (State.deferOne_fold w allMasters (by decide) s).1

/-- R104: the records after a grant. -/
theorem State.deferAt_conf (s : State) (w n : Master) : (s.deferAt w).conf n = (s.conf n).deferredAt s.deferral w n := by
  have conf := (State.deferOne_fold w allMasters (by decide) s).2 n
  rwa [if_pos (mem_allMasters n)] at conf

end

end Sys2Proof.Machine
end

section
/-! SUPPORT. The fault queue and the alert block under every move: which moves touch them (R157 to R167), stored records and sticky
flags (R154, R155, R161, R164), and the numbering of the records (R158). -/

namespace Sys2Proof.Machine

open Relation (ReflTransGen)

section
variable {c : Instr} {s t u : State} {a b : Stage}

/-! ### Which moves touch the fault queue and the alert block -/

/-- What is said of the fault queue and the alert block alone, and is kept by a hand-over and by a flag set beside. -/
structure RecordRule (P : State → Prop) : Prop where
  congr : ∀ u v : State, v.queue = u.queue → v.alerts = u.alerts → P u → P v
  hand : ∀ (u : State) (r : RecordBody), P u → P (u.hand r)
  flags : ∀ (u : State) (f : AlertSet), u.alerts.flags.Raises f → P u → P (u.withFlags f)

theorem RecordRule.recovery {P : State → Prop} (rule : RecordRule P) (step : Recovery s t) (start : P s) : P t := by
  cases step with
  | hand r => exact rule.hand s r start
  | flags f raises => exact rule.flags s f raises start
  | draws d => exact rule.congr s _ rfl rfl start
  | readmit m isolated => exact rule.congr s _ rfl rfl start

theorem RecordRule.follow {P : State → Prop} (rule : RecordRule P) (step : Follow s t) (start : P s) : P t := by
  cases step with
  | recovery step => exact rule.recovery step start
  | recoveries counts taken _ =>
    refine Recovery.all_keep (fun _ _ => rule.recovery) taken (rule.congr s _ ?_ ?_ start) <;> rw [counts.1]
  | link | port | promote | silence | join | score | limit | relax | cutOff | clear => exact rule.congr s _ rfl rfl start

theorem RecordRule.move {P : State → Prop} (rule : RecordRule P)
    (mask : ∀ (u : State) m, P u → P { u with queue := { u.queue with mask := m } })
    (enables : ∀ (u : State) e, P u → P (u.withEnables e))
    (clear : ∀ (u : State) b f, c = .clearAlerts b → P u → P (u.withFlags (u.alerts.flags.without f)))
    (pop : ∀ (u : State) r rest, c = .popFault → u.queue.records = r :: rest → P u →
      P (if rest = [] then State.lowerQueue { u with queue := { u.queue with records := rest } }
         else { u with queue := { u.queue with records := rest } }))
    (service : ∀ u : State, commandIsReset c = true → P u → P u.serviceReset)
    (values : ∀ (u : State) o onPort, commandIsReset c = true → P u → P (u.resetValues o onPort))
    (step : Move c a s b t) (start : P s) : P t := by
  cases step with
  | follow step => exact rule.follow step start
  | mask _ m => exact mask _ m start
  | enables _ e => exact enables _ e start
  | clearFlags _ b f hc => exact clear _ b f hc start
  | pop _ hc r rest records => exact pop _ r rest hc records start
  | serviceReset _ hc => exact service _ (by rw [hc]; rfl) start
  | resetValues _ hc o onPort lists => exact values _ o onPort hc start
  | stall _ k x live filling =>
    refine rule.congr s _ ?_ ?_ start <;> simp only [State.setWriteList, State.setPort] <;> rw [s.freeSlot_frame k]
  | free _ k x live delivering => refine rule.congr s _ ?_ ?_ start <;> rw [s.freeSlot_frame k]
  | dropOrphan _ k x busy issued => refine rule.congr s _ ?_ ?_ start <;> rw [s.freeSlot_frame k]
  | grant _ w k x => refine rule.congr s _ ?_ ?_ start <;> simp only <;> rw [State.deferAt_frame] <;> rfl
  | storeBeat _ k x word status => refine rule.congr s _ ?_ ?_ start <;> rw [s.storeBeat_frame k x word status]
  | assess _ h => refine rule.congr s _ ?_ ?_ start <;> rw [s.assess_frame h]
  | memory _ mem h => refine rule.congr s _ ?_ ?_ start <;> rw [State.assess_frame]
  | allocate | fillMore | fillEnd | deliver | advance | finish | close | failQueued | timers | edge | mode | fill | window
  | timing | deferral | recoveryMode | clearActive | clearLimited | isolate | restore | resetReleased | resetAsserted =>
    exact rule.congr s _ rfl rfl start

/-! ### Stored records (R154, R155, R161) -/

/-- R157: a hand-over stores nothing, or one record at the tail. -/
theorem State.hand_records (s : State) (r : RecordBody) :
    (s.hand r).queue.records = s.queue.records ∨
      s.queue.records.length < 32 ∧
        (s.hand r).queue.records = s.queue.records ++ [⟨s.queue.nextSeq, s.queue.lost, r⟩] := by
  unfold State.hand
  split
  · split
    · rename_i room
      refine .inr ⟨room, ?_⟩
      unfold State.store
      simp only
      split <;> rfl
    · exact .inl rfl
  · exact .inl rfl

/-- The stored records of `s` stand in `u`, with new ones behind them. -/
def State.RecordsStand (s u : State) : Prop := ∃ added, u.queue.records = s.queue.records ++ added

theorem recordsStand_rule (s : State) : RecordRule s.RecordsStand where
  congr u v hq _ stand := by rwa [State.RecordsStand, hq]
  hand u r := by
    rintro ⟨added, stand⟩
    obtain e | ⟨-, e⟩ := u.hand_records r
    · exact ⟨added, e.trans stand⟩
    · exact ⟨added ++ [_], by rw [e, stand, List.append_assoc]⟩
  flags u f _ stand := stand

theorem Move.recordsStand (noReset : commandIsReset c = false) (noPop : c ≠ .popFault) (step : Move c a s b t) {s₀ : State}
    (stand : s₀.RecordsStand s) : s₀.RecordsStand t :=
  (recordsStand_rule s₀).move (fun _ _ h => h) (fun _ _ h => h) (fun _ _ _ _ h => h) (fun _ _ _ hc => absurd hc noPop)
    (fun _ hc => by simp [noReset] at hc) (fun _ _ _ hc => by simp [noReset] at hc) step stand

/-- R161: POP FAULT removes the oldest record, or none. -/
theorem exec_popFault_records (e : exec .popFault s = .next t) :
    t.queue.records = s.queue.records ∨ t.queue.records = s.queue.records.tail := by
  obtain rfl := Host.Outcome.next.inj e
  cases accepted : s.accepts (withCheck [0x08#8]) [] with
  | false => rw [s.command_refuses _ _ accepted]; exact .inl rfl
  | true =>
    rw [s.command_takes _ _ accepted]
    cases records : s.queue.records with
    | nil => left; simp [popEffect, records]
    | cons r rest =>
      right
      simp only [popEffect, records]
      split <;> rfl

/-! ### Sticky flags (R164) -/

/-- R164: the sticky flags of `f` are set in `g`. -/
def AlertSet.StickyIn (f g : AlertSet) : Prop :=
  (f.standing = true → g.standing = true) ∧ (f.recovery = true → g.recovery = true) ∧
    (f.memory = true → g.memory = true) ∧ (f.loss = true → g.loss = true) ∧ (f.held = true → g.held = true)

theorem AlertSet.Raises.stickyIn {f g h : AlertSet} (raises : g.Raises h) (sticky : f.StickyIn g) : f.StickyIn h := by
  obtain ⟨h1, h2, h3, h4, h5⟩ := sticky
  exact ⟨raises.standing ∘ h1, raises.recovery ∘ h2, raises.memory ∘ h3, raises.loss ∘ h4, raises.held ∘ h5⟩

theorem State.hand_sticky {f : AlertSet} (s : State) (r : RecordBody) (sticky : f.StickyIn s.alerts.flags) :
    f.StickyIn (s.hand r).alerts.flags := by
  obtain e | e | e := s.hand_cases r <;> rw [e]
  · exact sticky
  · unfold State.store
    simp only
    split
    · exact sticky
    · exact sticky
  · exact ⟨sticky.1, sticky.2.1, sticky.2.2.1, fun _ => rfl, sticky.2.2.2.2⟩

theorem stickyFlags_rule (f : AlertSet) : RecordRule fun u => f.StickyIn u.alerts.flags where
  congr u v _ ha sticky := by rwa [ha]
  hand u r := u.hand_sticky r
  flags u g raises := raises.stickyIn

theorem Move.stickyFlags (noReset : commandIsReset c = false) (noClear : ∀ b, c ≠ .clearAlerts b) (step : Move c a s b t)
    {f : AlertSet} (sticky : f.StickyIn s.alerts.flags) : f.StickyIn t.alerts.flags :=
  (stickyFlags_rule f).move (fun _ _ h => h) (fun _ _ h => h) (fun _ b _ hc => absurd hc (noClear b))
    (fun _ _ _ _ _ h => by split <;> exact h)
    (fun _ hc => by simp [noReset] at hc) (fun _ _ _ hc => by simp [noReset] at hc) step sticky

end

/-- Settles O53: a hand-over adds at the tail and flags are only set, move by move, but for POP FAULT, CLEAR ALERTS and the resets. -/
theorem recordsAndFlagsStand : Obligations.RecordsAndFlagsStand := by
  intro c s t noReset e
  have course := exec_course e
  refine ⟨fun noPop => ?records, fun isPop => ?popped, fun noClear => ?flags⟩
  case records => exact course.keeps_state s.RecordsStand ⟨[], by simp⟩ fun _ _ _ _ step => step.recordsStand noReset noPop
  case popped =>
    subst isPop
    exact exec_popFault_records e
  case flags =>
    exact course.keeps_state (fun u => s.alerts.flags.StickyIn u.alerts.flags) ⟨id, id, id, id, id⟩
      fun _ _ _ _ step => step.stickyFlags noReset noClear

/-! ### The numbering of the records (R154, R158), QUEUE (R165) and ALERT (R167) -/

section
variable {c : Instr} {s t u : State} {a b : Stage}

/-- R158: a record at the tail is numbered after the last one. -/
theorem numbered_append (l : List FaultRecord) (r : FaultRecord) (run : numbered l = true)
    (next : ∀ q ∈ l.getLast?, follows q.sequence r.sequence r.lost) : numbered (l ++ [r]) = true := by
  induction l with
  | nil => rfl
  | cons q l ih =>
    cases l with
    | nil => simp only [numbered, List.cons_append, List.nil_append, Bool.and_true, decide_eq_true_eq]; exact next q rfl
    | cons q' l =>
      simp only [numbered, Bool.and_eq_true, List.cons_append] at run ⊢
      exact ⟨run.1, ih run.2 fun x hx => next x (by simpa using hx)⟩

theorem numbered_tail {r : FaultRecord} {l : List FaultRecord} (run : numbered (r :: l) = true) : numbered l = true := by
  cases l with
  | nil => rfl
  | cons q l =>
    simp only [numbered, Bool.and_eq_true] at run
    exact run.2

theorem follows_next (q : BitVec 16) : follows q (q + 1#16) 0 := fun _ => (BitVec.add_zero _).symm

/-- R158: a loss moves the next number on as it counts. -/
theorem follows_lost {q next : BitVec 16} {lost : Nat} (h : follows q next lost) :
    follows q (next + 1#16) (min (lost + 1) 65535) := by
  intro below
  have room : lost + 1 < 65535 := by omega
  rw [h (by omega), Nat.min_eq_left (by omega), BitVec.ofNat_add]
  ac_rfl

theorem queueNumbered_store (h : s.QueueNumbered) (r : RecordBody) (room : s.queue.records.length < 32) :
    (s.store r).QueueNumbered := by
  obtain ⟨-, -, run, next, flag, line⟩ := h
  have numbered := numbered_append s.queue.records ⟨s.queue.nextSeq, s.queue.lost, r⟩ run next
  have tail : ∀ q ∈ (s.queue.records ++ [FaultRecord.mk s.queue.nextSeq s.queue.lost r]).getLast?,
      follows q.sequence (s.queue.nextSeq + 1#16) 0 := by
    rw [List.getLast?_concat]
    rintro q ⟨⟩
    exact follows_next _
  unfold State.store
  simp only
  split
  · rename_i empty
    exact ⟨by simp [empty], by simp, numbered, tail, by simp [State.raiseQueue], rfl⟩
  · rename_i stored
    exact ⟨by simp; omega, by simp, numbered, tail, by simp [flag.mpr stored], line⟩

theorem queueNumbered_lose (h : s.QueueNumbered) : s.lose.QueueNumbered := by
  obtain ⟨most, -, run, next, flag, -⟩ := h
  exact ⟨most, Nat.min_le_right _ _, run, fun q hq => follows_lost (next q hq), flag, rfl⟩

theorem queueNumbered_hand (h : s.QueueNumbered) (r : RecordBody) : (s.hand r).QueueNumbered := by
  unfold State.hand
  split
  · split
    · rename_i room
      exact queueNumbered_store h r room
    · exact queueNumbered_lose h
  · exact h

theorem queueNumbered_rule : RecordRule State.QueueNumbered where
  congr u v hq ha h := by rwa [State.QueueNumbered, hq, ha]
  hand u r h := queueNumbered_hand h r
  flags u f raises h := by
    obtain ⟨most, lost, run, next, flag, -⟩ := h
    exact ⟨most, lost, run, next, by simpa [raises.queue] using flag, rfl⟩

theorem queueNumbered_pop {r : FaultRecord} {rest : List FaultRecord} (records : s.queue.records = r :: rest)
    (h : s.QueueNumbered) :
    State.QueueNumbered (if rest = [] then State.lowerQueue { s with queue := { s.queue with records := rest } }
      else { s with queue := { s.queue with records := rest } }) := by
  obtain ⟨most, lost, run, next, flag, line⟩ := h
  rw [records] at most run next flag
  split
  · rename_i empty
    subst empty
    exact ⟨by simp, lost, rfl, by simp [State.lowerQueue], by simp [State.lowerQueue], rfl⟩
  · rename_i stored
    refine ⟨by simp at most ⊢; omega, lost, numbered_tail run, fun q hq => next q ?_, by simpa [stored] using flag, line⟩
    cases rest with
    | nil => exact absurd rfl stored
    | cons q' rest => simpa using hq

theorem Move.queueNumbered (step : Move c a s b t) (h : s.QueueNumbered) : t.QueueNumbered := by
  refine queueNumbered_rule.move (fun u m h => h) (fun u e h => ?_) (fun u b f _ h => ?_)
    (fun u r rest _ records h => queueNumbered_pop records h) (fun u _ _ => ?_) (fun u o onPort _ _ => ?_) step h
  · obtain ⟨most, lost, run, next, flag, -⟩ := h
    exact ⟨most, lost, run, next, flag, rfl⟩
  · obtain ⟨most, lost, run, next, flag, -⟩ := h
    exact ⟨most, lost, run, next, flag, rfl⟩
  · exact ⟨by simp [State.serviceReset], by simp [State.serviceReset], rfl, by simp [State.serviceReset],
      by simp [State.serviceReset, AlertSet.clear], by simp [State.serviceReset, AlertSet.clear, alertLevel]⟩
  · exact ⟨by simp [State.resetValues, State.reset], by simp [State.resetValues, State.reset], rfl,
      by simp [State.resetValues, State.reset], by simp [State.resetValues, State.reset, AlertSet.clear], rfl⟩

end

/-- Settles O56: hand-over, POP FAULT and the resets keep the numbering, QUEUE and ALERT, and no other move touches them. -/
theorem stepKeepsTheQueueNumbered : Obligations.StepKeepsTheQueueNumbered :=
  fun _ _ numbered e => step_keeps (fun _ _ _ _ _ => Move.queueNumbered) (fun _ _ h => h) numbered e

end Sys2Proof.Machine
end

section
/-! SUPPORT. The confinement records under every move: which moves touch them, and with them the agreement of score and standing (R61),
the wait list (R30, R60), the recovery counts (R88, R91), and the scores in PASS mode (R52). -/

namespace Sys2Proof.Machine

open Relation (ReflTransGen)

section
variable {c : Instr} {s t u v : State} {a b : Stage} {m n p : Master}

/-! ### Which moves touch the confinement records -/

/-- The records, the CUT lines, the wait list, the deferral setting and the mode are the same. -/
structure SameStanding (u v : State) : Prop where
  conf : ∀ m, v.conf m = u.conf m
  cut : ∀ p, (v.port p).cut = (u.port p).cut
  waitList : v.waitList = u.waitList
  deferral : v.deferral = u.deferral
  mode : v.mode = u.mode

theorem SameStanding.of_fields (masters : v.masters = u.masters) (ports : v.ports = u.ports) (waitList : v.waitList = u.waitList)
    (deferral : v.deferral = u.deferral) (mode : v.mode = u.mode) : SameStanding u v :=
  ⟨State.conf_congr masters, fun p => by rw [State.port_congr ports p], waitList, deferral, mode⟩

/-- What is said of the confinement records, and is kept by each change of them that a move of the command `c` can make. -/
structure StandingRule (c : Instr) (P : State → Prop) : Prop where
  congr : ∀ u v, SameStanding u v → P u → P v
  readmit : ∀ u m, (u.conf m).standing = .isolated → P u → P (u.readmit m)
  recoveries : ∀ u w v, u.CountsMove w → ReflTransGen Recovery w v → (u.CountsBounded → v.CountsBounded) → P u → P v
  silence : ∀ u m, P u → P (u.setConf m { u.conf m with count := 0 })
  join : ∀ u p, p ∉ u.waitList → (u.conf p).standing ≠ .isolated → P u → P (u.joinWaitList p)
  leave : ∀ u p, P u → P (u.leaveWaitList p)
  score : ∀ u m n, u.mode = .guarded → (u.conf m).standing ≠ .isolated → standingOf n = (u.conf m).standing → P u →
    P (u.setConf m { u.conf m with score := n })
  limit : ∀ u m n, u.mode = .guarded → (u.conf m).standing = .active → standingOf n = .limited → P u →
    P (u.setConf m { u.conf m with score := n, standing := .limited })
  relax : ∀ u m n, u.mode = .guarded → (u.conf m).standing = .limited → standingOf n = .active → P u →
    P (u.setConf m { u.conf m with score := n, standing := .active, deferral := 0 })
  cutOff : ∀ u m, (u.mode = .guarded ∨ ∃ b, c = .isolate b) → (u.conf m).standing ≠ .isolated → P u → P (u.cutOff m)
  grant : ∀ u w, P u → P (u.deferAt w)
  mode : ∀ u m, (∃ b, c = .setMode b) → P u → P { u with mode := m }
  deferral : ∀ u n, n ≤ 15 → P u → P { u with deferral := n }
  recoveryMode : ∀ u m r, P u → P (u.setConf m { u.conf m with recovery := r, count := 0 })
  clearActive : ∀ u m, (∃ b, c = .clearScore b) → (u.conf m).standing = .active → P u →
    P (u.setConf m { u.conf m with score := 0 })
  clearLimited : ∀ u m, (∃ b, c = .clearScore b) → (u.conf m).standing = .limited → P u →
    P (u.setConf m { u.conf m with score := 0, standing := .active, deferral := 0 })
  service : ∀ u, commandIsReset c = true → P u → P u.serviceReset
  values : ∀ u o onPort, commandIsReset c = true → (∀ x, (onPort x : Port).cut = false) → P u → P (u.resetValues o onPort)

theorem State.mapBank_port (s : State) (f : Port → Port) (p : Master) :
    State.port { s with ports := mapBank f s.ports } p = f (s.port p) := by
  simp [State.port]

theorem State.mapBank_slot (s : State) (f : Option Slot → Option Slot) (k : SlotIx) :
    State.slot { s with slots := mapBank f s.slots } k = f (s.slot k) := by
  simp [State.slot]

namespace StandingRule

variable {P : State → Prop}

theorem after_recovery (rule : StandingRule c P) (step : Recovery s t) (start : P s) : P t := by
  cases step with
  | hand r => exact rule.congr s _ (.of_fields (by simp) (by simp) (by simp) (by simp) (by simp)) start
  | flags f _ => exact rule.congr s _ (.of_fields rfl rfl rfl rfl rfl) start
  | draws d => exact rule.congr s _ (.of_fields rfl rfl rfl rfl rfl) start
  | readmit m isolated => exact rule.readmit s m isolated start

theorem setPort (rule : StandingRule c P) {x : Port} (cut : x.cut = (s.port p).cut) (start : P s) : P (s.setPort p x) := by
  refine rule.congr s _ ⟨fun _ => rfl, fun q => ?_, rfl, rfl, rfl⟩ start
  rw [s.setPort_port p q x]
  split
  · rename_i self; rw [cut, self]
  · rfl

theorem after_follow (rule : StandingRule c P) (step : Follow s t) (start : P s) : P t := by
  cases step with
  | recovery step => exact rule.after_recovery step start
  | recoveries counts taken bounded => exact rule.recoveries s _ t counts taken bounded start
  | link l _ => exact rule.congr s _ (.of_fields rfl rfl rfl rfl rfl) start
  | port p x _ cut => exact rule.setPort cut start
  | promote =>
    refine rule.congr s _ ⟨fun _ => rfl, fun p => ?_, rfl, rfl, rfl⟩ start
    rw [s.mapBank_port, Port.promote_cut]
  | silence m => exact rule.silence s m start
  | join p due => exact rule.join s p (State.mustJoin_facts due).1 (State.mustJoin_facts due).2 start
  | score m n guarded live same => exact rule.score s m n guarded live same start
  | limit m n guarded active limited => exact rule.limit s m n guarded active limited start
  | relax m n guarded limited active => exact rule.relax s m n guarded limited active start
  | cutOff m guarded live => exact rule.cutOff s m (.inl guarded) live start
  | clear p =>
    have left : P ((s.dropSlots p).leaveWaitList p) :=
      rule.leave _ p (rule.congr s (s.dropSlots p) (.of_fields rfl rfl rfl rfl rfl) start)
    exact rule.setPort (by simp) left

theorem after_move (rule : StandingRule c P) (step : Move c a s b t) (start : P s) : P t := by
  have quiet {t : State} (masters : t.masters = s.masters) (ports : t.ports = s.ports) (waitList : t.waitList = s.waitList)
      (deferral : t.deferral = s.deferral) (mode : t.mode = s.mode) : P t :=
    rule.congr s t (.of_fields masters ports waitList deferral mode) start
  cases step with
  | follow step => exact rule.after_follow step start
  | allocate _ p k r due free =>
    refine rule.leave _ p (rule.setPort ?_ (rule.congr s _ (.of_fields rfl rfl rfl rfl rfl) start))
    rfl
  | fillEnd _ p k x y rest l bt head live ends => exact rule.setPort rfl (quiet (t := s.setSlot k _) rfl rfl rfl rfl rfl)
  | stall _ k x live filling =>
    refine rule.setPort rfl (quiet ?_ ?_ ?_ ?_ ?_) <;> rw [s.freeSlot_frame k]
  | free _ k x live delivering => refine quiet ?_ ?_ ?_ ?_ ?_ <;> rw [s.freeSlot_frame k]
  | dropOrphan _ k x busy issued => refine quiet ?_ ?_ ?_ ?_ ?_ <;> rw [s.freeSlot_frame k]
  | grant _ w k x idle candidate live =>
    exact rule.congr ((s.issue k x).deferAt w) _ (.of_fields rfl rfl rfl rfl rfl) (rule.grant _ w (quiet (t := s.issue k x) rfl rfl rfl rfl rfl))
  | storeBeat _ k x word status => refine quiet ?_ ?_ ?_ ?_ ?_ <;> rw [s.storeBeat_frame k x word status]
  | assess _ h => refine quiet ?_ ?_ ?_ ?_ ?_ <;> rw [s.assess_frame h]
  | memory _ mem h => refine quiet ?_ ?_ ?_ ?_ ?_ <;> rw [State.assess_frame]
  | mode _ b m hc => exact rule.mode s m ⟨b, hc⟩ start
  | deferral _ n most => exact rule.deferral s n most start
  | recoveryMode _ m r => exact rule.recoveryMode s m r start
  | clearActive _ b m hc active => exact rule.clearActive s m ⟨b, hc⟩ active start
  | clearLimited _ b m hc limited => exact rule.clearLimited s m ⟨b, hc⟩ limited start
  | isolate _ b m hc live => exact rule.cutOff s m (.inr ⟨b, hc⟩) live start
  | restore _ b m hc isolated => exact rule.readmit s m isolated start
  | serviceReset _ hc => exact rule.service s (by rw [hc]; rfl) start
  | resetValues _ hc o onPort lists =>
    exact rule.values s o onPort hc (fun x => by obtain rfl | rfl := lists <;> rfl) start
  | pop _ hc r rest records => split <;> exact quiet rfl rfl rfl rfl rfl
  | fillMore | deliver | advance | finish | close | failQueued | timers | edge | fill | window | timing | mask | enables | clearFlags
  | resetReleased | resetAsserted => exact quiet rfl rfl rfl rfl rfl

end StandingRule

/-- A rule that counts do not matter to holds after recoveries where it is kept by each. -/
theorem StandingRule.after_recoveries {P : State → Prop} (congr : ∀ u v, SameStanding u v → P u → P v)
    (readmit : ∀ u m, (u.conf m).standing = .isolated → P u → P (u.readmit m)) (steps : ReflTransGen Recovery s t) (start : P s) :
    P t :=
  Recovery.all_keep (fun u v step start => by
    cases step with
    | hand r => exact congr u _ (.of_fields (by simp) (by simp) (by simp) (by simp) (by simp)) start
    | flags f _ => exact congr u _ (.of_fields rfl rfl rfl rfl rfl) start
    | draws d => exact congr u _ (.of_fields rfl rfl rfl rfl rfl) start
    | readmit m isolated => exact readmit u m isolated start) steps start

end

end Sys2Proof.Machine
end

section
/-! SUPPORT. The rules of the confinement records: score, standing, CUT and deferral (R61, R72, R83), the wait list (R30, R60), the
recovery counts (R88, R91), and the scores in PASS mode (R52). -/

namespace Sys2Proof.Machine

open Relation (ReflTransGen)

section
variable {c : Instr} {s t u v : State} {m n p : Master} {r : Confinement} {cut : Bool}

/-! ### Score, standing, CUT and deferral count (R61, R72, R83) -/

/-- What State.ScoresAgree says of one master: its record and its CUT line. -/
def Confinement.Agrees (r : Confinement) (cut : Bool) : Prop :=
  r.score ≤ 256 ∧ (r.standing = .isolated ↔ r.score = 256) ∧ (r.standing = .limited ↔ 128 ≤ r.score ∧ r.score ≤ 255) ∧
    (r.standing = .active ↔ r.score < 128) ∧ (cut = true ↔ r.standing = .isolated) ∧ r.deferral ≤ 15 ∧
    (r.standing ≠ .limited → r.deferral = 0)

theorem State.scoresAgree_iff : s.ScoresAgree ↔ s.deferral ≤ 15 ∧ ∀ m, (s.conf m).Agrees (s.port m).cut := Iff.rfl

/-- R61: a score of at most 256 has the standing of its range. -/
theorem standingOf_iff (n : Nat) :
    (standingOf n = .active ↔ n < 128) ∧ (standingOf n = .limited ↔ 128 ≤ n ∧ n < 256) ∧ (standingOf n = .isolated ↔ 256 ≤ n) := by
  unfold standingOf Config.limitedAt Config.scoreMax
  split
  · simp; omega
  · split <;> simp <;> omega

theorem Confinement.agrees_iff :
    r.Agrees cut ↔ r.score ≤ 256 ∧ r.standing = standingOf r.score ∧ (cut = true ↔ r.standing = .isolated) ∧ r.deferral ≤ 15 ∧
      (r.standing ≠ .limited → r.deferral = 0) := by
  obtain ⟨active, limited, isolated⟩ := standingOf_iff r.score
  unfold Confinement.Agrees
  constructor
  · rintro ⟨most, h1, h2, h3, h4⟩
    refine ⟨most, ?_, h4⟩
    cases standing : r.standing with
    | active => exact (active.mpr (h3.mp standing)).symm
    | limited => exact (limited.mpr (by have := h2.mp standing; omega)).symm
    | isolated => exact (isolated.mpr (by have := h1.mp standing; omega)).symm
  · rintro ⟨most, standing, h4⟩
    rw [standing] at h4 ⊢
    exact ⟨most, isolated.trans (by omega), limited.trans (by omega), active, h4⟩

theorem State.ScoresAgree.setConf (h : s.ScoresAgree) (agrees : r.Agrees (s.port m).cut) : (s.setConf m r).ScoresAgree := by
  refine ⟨h.1, fun n => ?_⟩
  show ((s.setConf m r).conf n).Agrees (s.port n).cut
  rw [s.setConf_conf m n r]
  split
  · rename_i self; rw [self]; exact agrees
  · exact h.2 n

theorem State.ScoresAgree.congr (same : SameStanding u v) (h : u.ScoresAgree) : v.ScoresAgree := by
  refine ⟨same.deferral ▸ h.1, fun m => ?_⟩
  show (v.conf m).Agrees (v.port m).cut
  rw [same.conf m, same.cut m]
  exact h.2 m

theorem State.ScoresAgree.readmit (h : s.ScoresAgree) (m : Master) : (s.readmit m).ScoresAgree := by
  refine ⟨h.1, fun n => ?_⟩
  show ((s.readmit m).conf n).Agrees ((s.readmit m).port n).cut
  by_cases self : n = m
  · subst self; simp [Confinement.Agrees]
  · rw [s.readmit_conf_ne self, s.readmit_port_ne self]; exact h.2 n

theorem State.ScoresAgree.cutOff (h : s.ScoresAgree) (m : Master) : (s.cutOff m).ScoresAgree := by
  refine ⟨h.1, fun n => ?_⟩
  show ((s.cutOff m).conf n).Agrees ((s.cutOff m).port n).cut
  by_cases self : n = m
  · subst self; simp [Confinement.Agrees]
  · rw [s.cutOff_conf_ne self, s.cutOff_port_ne self]; exact h.2 n

theorem State.ScoresAgree.counts (h : s.ScoresAgree) (counts : s.CountsMove u) : u.ScoresAgree := by
  refine ⟨by rw [counts.1]; exact h.1, fun m => ?_⟩
  have port : u.port m = s.port m := State.port_congr (by rw [counts.1]) m
  show (u.conf m).Agrees (u.port m).cut
  rw [counts.2 m, port]
  exact h.2 m

/-- R62, R67, R69: a new score with its standing, where the master does not become or cease to be ISOLATED. -/
theorem Confinement.Agrees.newScore (h : r.Agrees cut) {n d : Nat} {st : Standing} (standing : st = standingOf n)
    (live : r.standing ≠ .isolated) (live' : st ≠ .isolated) (deferral : d = r.deferral ∧ (st = .limited ∨ r.standing ≠ .limited) ∨ d = 0) :
    Confinement.Agrees { r with score := n, standing := st, deferral := d } cut := by
  obtain ⟨-, -, line, most, zero⟩ := Confinement.agrees_iff.mp h
  obtain ⟨-, -, isolated⟩ := standingOf_iff n
  have below : n < 256 := Nat.lt_of_not_le fun high => live' (standing.trans (isolated.mpr high))
  refine Confinement.agrees_iff.mpr ⟨Nat.le_of_lt below, standing, ?_, ?_, ?_⟩
  · exact ⟨fun asserted => absurd (line.mp asserted) live, fun isolated => absurd isolated live'⟩
  · obtain ⟨rfl, -⟩ | rfl := deferral
    · exact most
    · exact Nat.zero_le _
  · intro notLimited
    obtain ⟨rfl, limited | before⟩ | rfl := deferral
    · exact absurd limited notLimited
    · exact zero before
    · rfl

theorem Confinement.Agrees.deferredAt (h : r.Agrees cut) {d : Nat} (most : d ≤ 15) (w m : Master) :
    (r.deferredAt d w m).Agrees cut := by
  obtain ⟨score, isolated, limited, active, line, bound, zero⟩ := h
  refine ⟨score, isolated, limited, active, line, ?_, fun (notLimited : r.standing ≠ .limited) => ?_⟩
  · simp only [Confinement.deferredAt]
    split
    · split <;> assumption
    · omega
  · simp [Confinement.deferredAt, notLimited, zero notLimited]

theorem scoresAgree_rule (c : Instr) : StandingRule c State.ScoresAgree where
  congr _ _ same h := h.congr same
  readmit _ m _ h := h.readmit m
  recoveries u w v counts steps _ h :=
    StandingRule.after_recoveries (fun _ _ same h => h.congr same) (fun _ m _ h => h.readmit m) steps (h.counts counts)
  silence u m h := h.setConf (h.2 m)
  join u p _ _ h := State.ScoresAgree.setConf (s := { u with waitList := u.waitList ++ [p] }) h (h.2 p)
  leave u p h := State.ScoresAgree.setConf (s := { u with waitList := u.waitList.filter (· != p) }) h (h.2 p)
  score u m n _ live same h :=
    h.setConf (Confinement.Agrees.newScore (h.2 m) same.symm live live (.inl ⟨rfl, by cases (u.conf m).standing <;> simp⟩))
  limit u m n _ active limited h :=
    h.setConf (Confinement.Agrees.newScore (h.2 m) limited.symm (by simp [active]) (by simp) (.inl ⟨rfl, .inl rfl⟩))
  relax u m n _ limited active h :=
    h.setConf (Confinement.Agrees.newScore (h.2 m) active.symm (by simp [limited]) (by simp) (.inr rfl))
  cutOff u m _ _ h := h.cutOff m
  grant u w h := by
    refine ⟨by rw [u.deferAt_frame]; exact h.1, fun n => ?_⟩
    have port : (u.deferAt w).port n = u.port n := State.port_congr (by rw [u.deferAt_frame]) n
    show ((u.deferAt w).conf n).Agrees ((u.deferAt w).port n).cut
    rw [u.deferAt_conf w n, port]
    exact Confinement.Agrees.deferredAt (h.2 n) h.1 w n
  mode u m _ h := h
  deferral u n most h := ⟨most, h.2⟩
  recoveryMode u m r h := h.setConf (h.2 m)
  clearActive u m _ active h :=
    h.setConf (Confinement.Agrees.newScore (h.2 m) (st := (u.conf m).standing) active (by simp [active]) (by simp [active])
      (.inl ⟨rfl, .inr (by simp [active])⟩))
  clearLimited u m _ limited h :=
    h.setConf (Confinement.Agrees.newScore (h.2 m) rfl (by simp [limited]) (by simp) (.inr rfl))
  service u _ h := by
    refine ⟨h.1, fun m => ?_⟩
    show (u.serviceReset.conf m).Agrees (u.serviceReset.port m).cut
    simp [State.serviceReset, State.conf, State.port, Confinement.afterService, Port.afterService, Confinement.fresh, Confinement.Agrees]
  values u o onPort _ cut h := by
    refine ⟨by simp [State.resetValues, State.reset], fun m => ?_⟩
    show ((u.resetValues o onPort).conf m).Agrees ((u.resetValues o onPort).port m).cut
    simp [State.resetValues, State.reset, State.conf, State.port, cut, Confinement.fresh, Confinement.Agrees]

end

/-- Settles O54: every move keeps the agreement of each record with its CUT line. -/
theorem stepKeepsScoresAndStanding : Obligations.StepKeepsScoresAndStanding :=
  fun _ _ agree e => step_keeps (fun c _ _ _ _ => (scoresAgree_rule c).after_move) (fun _ _ h => h) agree e

/-! ### The wait list (R30, R60) -/

section
variable {c : Instr} {s t u v : State} {m n p : Master} {r : Confinement} {cut : Bool}

/-- What State.WaitListSound says of one master, with the wait list `l`. -/
def Confinement.Mirrors (r : Confinement) (l : List Master) (m : Master) : Prop :=
  (r.waitListed = true ↔ m ∈ l) ∧ (m ∈ l → r.standing ≠ .isolated)

/-- R30: a wait list without repeats holds no more than the four ports. -/
theorem length_of_nodup {l : List Master} (nodup : l.Nodup) : l.length ≤ 4 := by
  simpa using nodup.length_le_card

theorem State.waitListSound_iff :
    s.WaitListSound ↔ s.waitList.Nodup ∧ ∀ m, (s.conf m).Mirrors s.waitList m :=
  ⟨fun ⟨nodup, _, mirrored⟩ => ⟨nodup, mirrored⟩, fun ⟨nodup, mirrored⟩ => ⟨nodup, length_of_nodup nodup, mirrored⟩⟩

/-- A record that is written with its wait-listed field as it stands, and not ISOLATED where it is on the list. -/
theorem State.WaitListSound.setConf (h : s.WaitListSound) (listed : r.waitListed = (s.conf m).waitListed)
    (live : (s.conf m).standing ≠ .isolated → r.standing ≠ .isolated) : (s.setConf m r).WaitListSound := by
  obtain ⟨nodup, mirrored⟩ := State.waitListSound_iff.mp h
  refine State.waitListSound_iff.mpr ⟨nodup, fun n => ?_⟩
  rw [s.setConf_conf m n r]
  split
  · rename_i self
    obtain ⟨mirror, waits⟩ := mirrored m
    rw [self]
    exact ⟨by rw [listed]; exact mirror, fun waiting => live (waits waiting)⟩
  · exact mirrored n

theorem State.WaitListSound.congr (same : SameStanding u v) (h : u.WaitListSound) : v.WaitListSound := by
  obtain ⟨nodup, mirrored⟩ := State.waitListSound_iff.mp h
  refine State.waitListSound_iff.mpr ⟨same.waitList ▸ nodup, fun m => ?_⟩
  rw [same.conf m, same.waitList]
  exact mirrored m

theorem State.WaitListSound.readmit (h : s.WaitListSound) (m : Master) : (s.readmit m).WaitListSound :=
  (State.WaitListSound.setConf h (r := { s.conf m with score := 0, standing := .active, count := 0, deferral := 0 }) rfl
    (by simp) : (s.setConf m _).WaitListSound)

theorem State.WaitListSound.leave (h : s.WaitListSound) (p : Master) : (s.leaveWaitList p).WaitListSound := by
  obtain ⟨nodup, mirrored⟩ := State.waitListSound_iff.mp h
  refine State.waitListSound_iff.mpr ⟨nodup.filter _, fun m => ?_⟩
  show Confinement.Mirrors _ (s.waitList.filter (· != p)) m
  by_cases self : m = p
  · subst self; simp [Confinement.Mirrors]
  · rw [s.leaveWaitList_conf_ne p self]
    simpa [Confinement.Mirrors, self] using mirrored m

theorem State.WaitListSound.join (h : s.WaitListSound) (fresh : p ∉ s.waitList) (live : (s.conf p).standing ≠ .isolated) :
    (s.joinWaitList p).WaitListSound := by
  obtain ⟨nodup, mirrored⟩ := State.waitListSound_iff.mp h
  refine State.waitListSound_iff.mpr ⟨?_, fun m => ?_⟩
  · show (s.waitList ++ [p]).Nodup
    rw [← List.concat_eq_append]
    exact nodup.concat fresh
  · show Confinement.Mirrors _ (s.waitList ++ [p]) m
    by_cases self : m = p
    · subst self; simp [Confinement.Mirrors, live]
    · rw [s.joinWaitList_conf_ne p self]
      simpa [Confinement.Mirrors, self] using mirrored m

theorem State.WaitListSound.cutOff (h : s.WaitListSound) (m : Master) : (s.cutOff m).WaitListSound := by
  obtain ⟨nodup, mirrored⟩ := State.waitListSound_iff.mp (h.leave m)
  refine State.waitListSound_iff.mpr ⟨nodup, fun n => ?_⟩
  show Confinement.Mirrors _ (s.waitList.filter (· != m)) n
  by_cases self : n = m
  · subst self; simp [Confinement.Mirrors]
  · rw [s.cutOff_conf_ne self, ← s.leaveWaitList_conf_ne m self]
    exact mirrored n

theorem State.WaitListSound.counts (h : s.WaitListSound) (counts : s.CountsMove u) : u.WaitListSound := by
  obtain ⟨nodup, mirrored⟩ := State.waitListSound_iff.mp h
  refine State.waitListSound_iff.mpr ⟨by rw [counts.1]; exact nodup, fun m => ?_⟩
  have list : u.waitList = s.waitList := by rw [counts.1]
  rw [counts.2 m, list]
  exact mirrored m

theorem waitListSound_rule (c : Instr) : StandingRule c State.WaitListSound where
  congr _ _ same h := h.congr same
  readmit _ m _ h := h.readmit m
  recoveries u w v counts steps _ h :=
    StandingRule.after_recoveries (fun _ _ same h => h.congr same) (fun _ m _ h => h.readmit m) steps (h.counts counts)
  silence u m h := h.setConf rfl id
  join u p fresh live h := h.join fresh live
  leave u p h := h.leave p
  score u m n _ _ _ h := h.setConf rfl id
  limit u m n _ _ _ h := h.setConf rfl (by simp)
  relax u m n _ _ _ h := h.setConf rfl (by simp)
  cutOff u m _ _ h := h.cutOff m
  grant u w h := by
    obtain ⟨nodup, mirrored⟩ := State.waitListSound_iff.mp h
    refine State.waitListSound_iff.mpr ⟨by rw [u.deferAt_frame]; exact nodup, fun n => ?_⟩
    have list : (u.deferAt w).waitList = u.waitList := by rw [u.deferAt_frame]
    rw [u.deferAt_conf w n, list]
    exact mirrored n
  mode u m _ h := h
  deferral u n _ h := h
  recoveryMode u m r h := h.setConf rfl id
  clearActive u m _ _ h := h.setConf rfl id
  clearLimited u m _ _ h := h.setConf rfl (by simp)
  service u _ _ := State.waitListSound_iff.mpr
    ⟨List.nodup_nil, fun m => by simp [State.serviceReset, State.conf, Confinement.afterService, Confinement.fresh, Confinement.Mirrors]⟩
  values u o onPort _ _ _ := State.waitListSound_iff.mpr
    ⟨List.nodup_nil, fun m => by simp [State.resetValues, State.reset, State.conf, Confinement.fresh, Confinement.Mirrors]⟩

end

/-- Settles O57: joining, leaving, isolation and the resets keep the list mirrored, and no other move touches it. -/
theorem stepKeepsTheWaitList : Obligations.StepKeepsTheWaitList :=
  fun _ _ sound e => step_keeps (fun c _ _ _ _ => (waitListSound_rule c).after_move) (fun _ _ h => h) sound e

/-! ### Recovery counts (R88, R91) -/

section
variable {c : Instr} {s t u v : State} {m n p : Master} {r : Confinement}

/-- What State.CountsBounded says of one master. -/
def Confinement.CountBounded (r : Confinement) : Prop := r.count ≤ r.recovery.bound ∧ (r.standing ≠ .isolated → r.count = 0)

theorem Confinement.countBounded_of_zero (zero : r.count = 0) : r.CountBounded := ⟨zero ▸ Nat.zero_le _, fun _ => zero⟩

theorem State.CountsBounded.setConf (h : s.CountsBounded) (bounded : (s.conf m).CountBounded → r.CountBounded) :
    (s.setConf m r).CountsBounded := by
  intro n
  show ((s.setConf m r).conf n).CountBounded
  rw [s.setConf_conf m n r]
  split
  · exact bounded (h m)
  · exact h n

theorem State.CountsBounded.of_conf (h : s.CountsBounded) (conf : ∀ m, (s.conf m).CountBounded → (t.conf m).CountBounded) :
    t.CountsBounded := fun m => conf m (h m)

theorem State.CountsBounded.readmit (h : s.CountsBounded) (m : Master) : (s.readmit m).CountsBounded := by
  refine h.of_conf fun n bounded => ?_
  by_cases self : n = m
  · subst self; exact Confinement.countBounded_of_zero (by simp)
  · rw [s.readmit_conf_ne self]; exact bounded

theorem State.CountsBounded.cutOff (h : s.CountsBounded) (m : Master) : (s.cutOff m).CountsBounded := by
  refine h.of_conf fun n bounded => ?_
  by_cases self : n = m
  · subst self; exact Confinement.countBounded_of_zero (by simp)
  · rw [s.cutOff_conf_ne self]; exact bounded

theorem State.CountsBounded.listed (h : s.CountsBounded) (conf : ∀ m, ∃ l, t.conf m = { s.conf m with waitListed := l }) :
    t.CountsBounded := by
  refine h.of_conf fun n bounded => ?_
  obtain ⟨l, e⟩ := conf n
  rw [e]
  exact bounded

theorem countsBounded_rule (c : Instr) : StandingRule c State.CountsBounded where
  congr u v same h := h.of_conf fun m bounded => by rw [same.conf m]; exact bounded
  readmit _ m _ h := h.readmit m
  recoveries u w v _ _ bounded h := bounded h
  silence u m h := h.setConf fun _ => Confinement.countBounded_of_zero rfl
  join u p _ _ h := h.listed (u.joinWaitList_conf p)
  leave u p h := h.listed (u.leaveWaitList_conf p)
  score u m n _ _ _ h := h.setConf id
  limit u m n _ active _ h := h.setConf fun bounded => Confinement.countBounded_of_zero (bounded.2 (by simp [active]))
  relax u m n _ limited _ h := h.setConf fun bounded => Confinement.countBounded_of_zero (bounded.2 (by simp [limited]))
  cutOff u m _ _ h := h.cutOff m
  grant u w h := h.of_conf fun m bounded => by rw [u.deferAt_conf w m]; exact bounded
  mode u m _ h := h
  deferral u n _ h := h
  recoveryMode u m r h := h.setConf fun _ => Confinement.countBounded_of_zero rfl
  clearActive u m _ _ h := h.setConf id
  clearLimited u m _ limited h := h.setConf fun bounded => Confinement.countBounded_of_zero (bounded.2 (by simp [limited]))
  service u _ h := h.of_conf fun m _ => Confinement.countBounded_of_zero (by
    simp [State.serviceReset, State.conf, Confinement.afterService, Confinement.fresh])
  values u o onPort _ _ h := h.of_conf fun m _ => Confinement.countBounded_of_zero (by
    simp [State.resetValues, State.reset, State.conf, Confinement.fresh])

/-! ### Settings and link (R43, R146, R170, R171) -/

/-- The window table, the timebase and the link are the same. -/
theorem Recovery.settings (step : Recovery s t) : t.windows = s.windows ∧ t.time = s.time ∧ t.link = s.link := by
  cases step with
  | hand r => simp
  | flags | draws | readmit => exact ⟨rfl, rfl, rfl⟩

theorem Follow.settings (step : Follow s t) : t.windows = s.windows ∧ t.time = s.time ∧ (s.link.Sound → t.link.Sound) := by
  cases step with
  | recovery step =>
    obtain ⟨windows, time, link⟩ := step.settings
    exact ⟨windows, time, by rw [link]; exact id⟩
  | recoveries counts taken _ =>
    have same := Recovery.all_keep (P := fun v => v.windows = s.windows ∧ v.time = s.time ∧ v.link = s.link)
      (fun u v step ⟨windows, time, wire⟩ => by
        obtain ⟨windows', time', link'⟩ := step.settings
        exact ⟨windows'.trans windows, time'.trans time, link'.trans wire⟩) taken (by rw [counts.1]; exact ⟨rfl, rfl, rfl⟩)
    exact ⟨same.1, same.2.1, by rw [same.2.2]; exact id⟩
  | link wire sound => exact ⟨rfl, rfl, sound⟩
  | port | promote | silence | join | score | limit | relax | cutOff | clear => exact ⟨rfl, rfl, id⟩

/-- What is said of the window table, the timebase and the link. -/
theorem Move.settings {a b : Stage} (step : Move c a s b t) :
    (s.SettingsInRange → t.SettingsInRange) ∧ (s.link.Sound → t.link.Sound) := by
  have quiet {t : State} (windows : t.windows = s.windows) (time : t.time = s.time) (link : s.link.Sound → t.link.Sound) :
      (s.SettingsInRange → t.SettingsInRange) ∧ (s.link.Sound → t.link.Sound) := by
    refine ⟨fun h => ⟨fun i => ?_, by rw [time]; exact h.2⟩, link⟩
    rw [State.window_congr windows i]
    exact h.1 i
  cases step with
  | follow step =>
    obtain ⟨windows, time, link⟩ := step.settings
    exact quiet windows time link
  | timers =>
    refine ⟨fun ⟨ordered, divider, _, timeouts⟩ => ⟨ordered, divider, ?_, timeouts⟩, id⟩
    exact Nat.two_pow_pos _
  | edge _ below => exact ⟨fun ⟨ordered, divider, _, timeouts⟩ => ⟨ordered, divider, below, timeouts⟩, id⟩
  | window _ i w ordered =>
    refine ⟨fun h => ⟨fun j => ?_, h.2⟩, id⟩
    by_cases self : j = i
    · subst self; rw [s.setWindow_window_self]; exact ordered
    · rw [s.setWindow_window_ne i w self]; exact h.1 j
  | timing _ k a b divider master memory =>
    exact ⟨fun h => ⟨h.1, divider, Nat.two_pow_pos _, master.1, master.2, memory.1, memory.2⟩, id⟩
  | serviceReset _ _ =>
    refine ⟨fun ⟨ordered, divider, _, timeouts⟩ => ⟨ordered, divider, ?_, timeouts⟩, id⟩
    exact Nat.two_pow_pos _
  | resetValues _ _ o onPort _ =>
    refine ⟨fun _ => ⟨fun i => ?_, ?_⟩, fun _ => Link.sound_of_ended rfl (by simp [State.resetValues, State.reset]) fun deasserted => ?_⟩
    · simp [State.window, State.resetValues, State.reset, Window.dead]
    · simp [State.resetValues, State.reset]
    · have deasserted : s.link.ssel = false := deasserted
      simp [State.resetValues, State.sdoutAtReset, deasserted]
  | stall _ k x live filling =>
    refine quiet ?_ ?_ ?_ <;> simp only [State.setWriteList, State.setPort] <;> rw [s.freeSlot_frame k]
    exact id
  | free _ k x live delivering => refine quiet ?_ ?_ ?_ <;> rw [s.freeSlot_frame k]; exact id
  | dropOrphan _ k x busy issued => refine quiet ?_ ?_ ?_ <;> rw [s.freeSlot_frame k]; exact id
  | grant _ w k x idle candidate live =>
    refine quiet ?_ ?_ ?_ <;> simp only <;> rw [State.deferAt_frame]
    · rfl
    · rfl
    · exact id
  | storeBeat _ k x word status => refine quiet ?_ ?_ ?_ <;> rw [s.storeBeat_frame k x word status]; exact id
  | assess _ h => refine quiet ?_ ?_ ?_ <;> rw [s.assess_frame h]; exact id
  | memory _ mem h => refine quiet ?_ ?_ ?_ <;> rw [State.assess_frame]; exact id
  | pop _ hc r rest records => split <;> exact quiet rfl rfl id
  | allocate | fillMore | fillEnd | deliver | advance | finish | close | failQueued | mode | fill | deferral | mask | enables | clearFlags
  | recoveryMode | clearActive | clearLimited | isolate | restore | resetReleased | resetAsserted => exact quiet rfl rfl id

end

/-- Settles O59: the moves keep the counts below their recovery, the settings in their ranges and the link sound. -/
theorem stepKeepsCountsSettingsAndLink : Obligations.StepKeepsCountsSettingsAndLink := by
  intro s t e
  refine ⟨fun bounded => ?counts, fun inRange => ?settings, fun sound => ?link⟩
  case counts => exact step_keeps (fun c _ _ _ _ => (countsBounded_rule c).after_move) (fun _ _ h => h) bounded e
  case settings => exact step_keeps (fun c _ _ _ _ step => step.settings.1) (fun _ _ h => h) inRange e
  case link => exact step_keeps (P := fun u => u.link.Sound) (fun c _ _ _ _ step => step.settings.2) (fun _ _ h => h) sound e

/-! ### Scores in PASS mode (R52) -/

section
variable {c : Instr} {s s₀ t u v : State} {m n p : Master} {r : Confinement}

/-- R52: the record `r'` has the score and standing of `r`, or its master was ISOLATED and has recovered. -/
def Confinement.ScoreStays (r r' : Confinement) : Prop :=
  r'.score = r.score ∧ r'.standing = r.standing ∨ r.standing = .isolated ∧ r'.standing = .active ∧ r'.score = 0

/-- R52: in PASS mode, the score of master `m` is that of the state `s₀`, or that of its recovery. -/
def State.ScoreStays (s₀ : State) (m : Master) (u : State) : Prop := u.mode = .pass ∧ (s₀.conf m).ScoreStays (u.conf m)

theorem State.ScoreStays.of_conf (h : s₀.ScoreStays m u) (mode : v.mode = u.mode)
    (conf : (v.conf m).score = (u.conf m).score ∧ (v.conf m).standing = (u.conf m).standing) : s₀.ScoreStays m v := by
  refine ⟨mode.trans h.1, ?_⟩
  unfold Confinement.ScoreStays
  rw [conf.1, conf.2]
  exact h.2

theorem State.ScoreStays.setConf (h : s₀.ScoreStays m u) (n : Master)
    (same : r.score = (u.conf n).score ∧ r.standing = (u.conf n).standing) : s₀.ScoreStays m (u.setConf n r) := by
  refine h.of_conf rfl ?_
  rw [u.setConf_conf n m r]
  split
  · rename_i self; rw [self]; exact same
  · exact ⟨rfl, rfl⟩

theorem State.ScoreStays.readmit (h : s₀.ScoreStays m u) (n : Master) (isolated : (u.conf n).standing = .isolated) :
    s₀.ScoreStays m (u.readmit n) := by
  by_cases self : m = n
  · subst self
    have before : (s₀.conf m).standing = .isolated := by
      obtain ⟨-, same⟩ | ⟨before, -, -⟩ := h.2
      · exact same.symm.trans isolated
      · exact before
    exact ⟨h.1, .inr ⟨before, by simp, by simp⟩⟩
  · exact h.of_conf rfl (by rw [u.readmit_conf_ne self]; exact ⟨rfl, rfl⟩)

theorem State.ScoreStays.listed (h : s₀.ScoreStays m u) (mode : v.mode = u.mode)
    (conf : ∃ l, v.conf m = { u.conf m with waitListed := l }) : s₀.ScoreStays m v := by
  obtain ⟨l, e⟩ := conf
  exact h.of_conf mode (by rw [e]; exact ⟨rfl, rfl⟩)

/-- R52: no move but those of ISOLATE, CLEAR SCORE, SET MODE and the resets changes a score in PASS mode, apart from a recovery. -/
theorem scoreStays_rule (s₀ : State) (m : Master) (noReset : commandIsReset c = false)
    (others : ∀ b, c ≠ .isolate b ∧ c ≠ .clearScore b ∧ c ≠ .setMode b) : StandingRule c (s₀.ScoreStays m) where
  congr u v same h := h.of_conf same.mode (by rw [same.conf m]; exact ⟨rfl, rfl⟩)
  readmit u n isolated h := h.readmit n isolated
  recoveries u w v counts steps _ h :=
    StandingRule.after_recoveries (fun u v same h => h.of_conf same.mode (by rw [same.conf m]; exact ⟨rfl, rfl⟩))
      (fun u n isolated h => h.readmit n isolated) steps (h.of_conf (by rw [counts.1]) (by rw [counts.2 m]; exact ⟨rfl, rfl⟩))
  silence u n h := h.setConf n ⟨rfl, rfl⟩
  join u p _ _ h := h.listed rfl (u.joinWaitList_conf p m)
  leave u p h := h.listed rfl (u.leaveWaitList_conf p m)
  score u n k guarded _ _ h := by simp [h.1] at guarded
  limit u n k guarded _ _ h := by simp [h.1] at guarded
  relax u n k guarded _ _ h := by simp [h.1] at guarded
  cutOff u n guarded _ h := by
    obtain guarded | ⟨b, hc⟩ := guarded
    · simp [h.1] at guarded
    · exact absurd hc (others b).1
  grant u w h := h.of_conf (by rw [u.deferAt_frame]) (by rw [u.deferAt_conf w m]; exact ⟨rfl, rfl⟩)
  mode u k named _ := by obtain ⟨b, hc⟩ := named; exact absurd hc (others b).2.2
  deferral u k _ h := h
  recoveryMode u n r h := h.setConf n ⟨rfl, rfl⟩
  clearActive u n named _ _ := by obtain ⟨b, hc⟩ := named; exact absurd hc (others b).2.1
  clearLimited u n named _ _ := by obtain ⟨b, hc⟩ := named; exact absurd hc (others b).2.1
  service u hc _ := by simp [noReset] at hc
  values u o onPort hc _ _ := by simp [noReset] at hc

/-- R53: SET MODE writes no confinement record. -/
theorem exec_setMode_masters {b : Byte} (e : exec (.setMode b) s = .next t) : t.masters = s.masters := by
  obtain rfl := Host.Outcome.next.inj e
  cases accepted : s.accepts (withCheck [0x11#8, b]) [] with
  | false => rw [s.command_refuses _ _ accepted]
  | true =>
    rw [s.command_takes _ _ accepted]
    cases readModeArg b with
    | none => rfl
    | some mode =>
      simp only [ranged_some, setModeEffect]
      split
      · rfl
      · exact State.hand_masters _ _

end

/-- Settles O52: SET MODE writes no record, and the moves of every other command leave the scores but for a recovery. -/
theorem passModeMovesNoScore : Obligations.PassModeMovesNoScore := by
  intro c s t m pass noReset others e
  by_cases setMode : ∃ b, c = .setMode b
  · obtain ⟨b, rfl⟩ := setMode
    rw [State.conf_congr (exec_setMode_masters e) m]
    exact .inl ⟨rfl, rfl⟩
  · have rule := scoreStays_rule (c := c) s m noReset fun b => ⟨(others b).1, (others b).2.2, fun hc => setMode ⟨b, hc⟩⟩
    exact ((exec_course e).keeps_state (s.ScoreStays m) ⟨pass, .inl ⟨rfl, rfl⟩⟩ fun _ _ _ _ => rule.after_move).2

end Sys2Proof.Machine
end

section
/-! SUPPORT. The slots under every move: what each keeps of a live slot, the phases it takes it through (R5), and with them the number
of slots of a master (R12) and the free count of the data buffer (R28). -/

namespace Sys2Proof.Machine

open Relation (ReflTransGen)

section
variable {c : Instr} {s t u v : State} {a b : Stage} {m p : Master} {k : SlotIx} {x y z : Slot}

/-! ### The life of a slot (R2, R5) -/

/-- R2: the fields of a slot that are written at its admission alone. -/
def Slot.identity (x : Slot) : Master × Tag × Kind × Option Addr × BeatCount × Nat × Option WindowIx × Serial :=
  (x.master, x.tag, x.kind, x.address, x.beats, x.reserved, x.window, x.admission)

/-- R2, R10: the slot is the same transaction, and an orphan stays one. -/
def Slot.Continues (x y : Slot) : Prop := y.identity = x.identity ∧ (x.orphan = true → y.orphan = true)

theorem Slot.Continues.refl (x : Slot) : x.Continues x := ⟨rfl, id⟩

theorem Slot.Continues.trans (h : x.Continues y) (h' : y.Continues z) : x.Continues z :=
  ⟨h'.1.trans h.1, fun o => h'.2 (h.2 o)⟩

theorem Slot.Continues.master (h : x.Continues y) : y.master = x.master := congrArg (·.1) h.1

theorem Slot.Continues.reserved (h : x.Continues y) : y.reserved = x.reserved := congrArg (·.2.2.2.2.2.1) h.1

/-- R5: the phase stays, or moves by a line of the table. -/
def Phase.Moves (f g : Phase) : Prop :=
  g = f ∨ (f = .filling ∧ (g = .queued ∨ g = .ready)) ∨ (f = .queued ∧ (g = .issued ∨ g = .ready)) ∨
    (f = .issued ∧ g = .ready) ∨ (f = .ready ∧ g = .delivering)

/-- R137: the phase stays, or the failure of the memory takes it from QUEUED to READY. -/
def Phase.Fails (f g : Phase) : Prop := g = f ∨ f = .queued ∧ g = .ready

/-- The phases that a move from stage `a` to stage `b` takes a slot through. -/
def Stage.Moves : Stage → Stage → Phase → Phase → Prop
  | .fresh, .fresh, f, g => g = f
  | .fresh, _, f, g => f.Moves g
  | _, _, f, g => f.Fails g

theorem Phase.Moves.fails {f g h : Phase} (moved : f.Moves g) (failed : g.Fails h) : f.Moves h := by
  obtain rfl | ⟨rfl, rfl⟩ := failed
  · exact moved
  · obtain rfl | ⟨rfl, -⟩ | ⟨rfl, -⟩ | ⟨-, contra⟩ | ⟨-, contra⟩ := moved
    · exact .inr (.inr (.inl ⟨rfl, .inr rfl⟩))
    · exact .inr (.inl ⟨rfl, .inr rfl⟩)
    · exact .inr (.inr (.inl ⟨rfl, .inr rfl⟩))
    · cases contra
    · cases contra

theorem Stage.moves_same (a b : Stage) (f : Phase) : a.Moves b f f := by
  cases a <;> cases b <;> first | rfl | exact Or.inl rfl

/-- Every live slot of `t` is, by `R`, what a live slot of `s` has become. -/
def State.SlotsFrom (R : Slot → Slot → Prop) (s t : State) : Prop := ∀ k y, t.slot k = some y → ∃ x, s.slot k = some x ∧ R x y

namespace State.SlotsFrom

variable {R : Slot → Slot → Prop}

theorem of_slots (same : t.slots = s.slots) (refl : ∀ x, R x x) : s.SlotsFrom R t := fun k y live =>
  ⟨y, (State.slot_congr same k).symm.trans live, refl y⟩

theorem of_mapBank {f : Option Slot → Option Slot} (mapped : t.slots = mapBank f s.slots) (free : f none = none)
    (step : ∀ x y, f (some x) = some y → R x y) : s.SlotsFrom R t := fun k y live => by
  have image : t.slot k = f (s.slot k) := (State.slot_congr (t := t) (s := { s with slots := mapBank f s.slots }) mapped k).trans (s.mapBank_slot f k)
  rw [image] at live
  cases before : s.slot k with
  | none => rw [before, free] at live; cases live
  | some x => rw [before] at live; exact ⟨x, rfl, step x y live⟩

theorem of_setSlot (live : s.slot k = some x) (same : t.slots = (s.setSlot k (some y)).slots) (step : R x y) (refl : ∀ x, R x x) :
    s.SlotsFrom R t := fun j z after => by
  rw [State.slot_congr same j, s.setSlot_slot k j] at after
  split at after
  · rename_i self
    obtain rfl := Option.some.inj after
    exact ⟨x, self ▸ live, step⟩
  · exact ⟨z, after, refl z⟩

theorem of_freeSlot (refl : ∀ x, R x x) (same : t.slots = (s.freeSlot k).slots) : s.SlotsFrom R t := fun j z after => by
  rw [State.slot_congr same j, s.freeSlot_slot k j] at after
  split at after
  · cases after
  · exact ⟨z, after, refl z⟩

theorem of_no_slot (none : ∀ k, t.slot k = none) : s.SlotsFrom R t := fun k y live => by rw [none k] at live; cases live

end State.SlotsFrom

theorem dropOne_continues (live : dropOne m (some x) = some y) : x.Continues y ∧ y.phase = x.phase := by
  simp only [dropOne] at live
  split at live
  · cases live
  · split at live <;> obtain rfl := Option.some.inj live
    · exact ⟨⟨rfl, fun _ => rfl⟩, rfl⟩
    · exact ⟨.refl x, rfl⟩

theorem failOne_continues {fill : Word} (live : failOne fill (some x) = some y) : x.Continues y ∧ x.phase.Fails y.phase := by
  simp only [failOne, Option.map_some] at live
  split at live <;> obtain rfl := Option.some.inj live
  · rename_i queued
    exact ⟨⟨rfl, id⟩, .inr ⟨queued, rfl⟩⟩
  · exact ⟨.refl x, .inl rfl⟩

theorem FillEnds.continues {rest l : List ListEntry} (ends : FillEnds s x rest y l) :
    x.Continues y ∧ (y.phase = .queued ∨ y.phase = .ready) := by
  cases ends with
  | filled _ =>
    unfold State.finishFilling
    split
    · exact ⟨⟨rfl, id⟩, .inr rfl⟩
    · split
      · exact ⟨⟨rfl, id⟩, .inr rfl⟩
      · exact ⟨⟨rfl, id⟩, .inl rfl⟩
  | malformed _ => exact ⟨⟨rfl, id⟩, .inr rfl⟩
  | long _ => exact ⟨⟨rfl, id⟩, .inr rfl⟩

theorem Slot.takeBeat_continues (x : Slot) (bt : DataBeat) : x.Continues (x.takeBeat bt) ∧ (x.takeBeat bt).phase = x.phase := by
  unfold Slot.takeBeat
  split <;> exact ⟨⟨rfl, id⟩, rfl⟩

/-- R22: the slot that the fill entry at the head of a list names is FILLING. -/
theorem State.FillsSound.head_filling (fills : s.FillsSound) {rest : List ListEntry} (head : (s.port p).writeList = .fill k :: rest)
    (live : s.slot k = some x) : x.phase = .filling ∧ x.master = p := by
  have named := (fills p).2.2 k (by rw [head]; exact List.mem_cons_self)
  rw [live] at named
  simpa using named

theorem Recovery.slots_eq (step : Recovery s t) : t.slots = s.slots ∧ t.freeWords = s.freeWords := by
  cases step with
  | hand r => simp
  | flags | draws | readmit => exact ⟨rfl, rfl⟩

theorem Recovery.all_slots_eq (steps : ReflTransGen Recovery s t) : t.slots = s.slots ∧ t.freeWords = s.freeWords :=
  Recovery.all_keep (P := fun v => v.slots = s.slots ∧ v.freeWords = s.freeWords)
    (fun _ _ step ⟨slots, words⟩ => ⟨step.slots_eq.1.trans slots, step.slots_eq.2.trans words⟩) steps ⟨rfl, rfl⟩

/-- The slots and the data buffer under what follows of an event: they stay, or a master's slots are dropped. -/
theorem Follow.slots_cases (step : Follow s t) :
    (t.slots = s.slots ∧ t.freeWords = s.freeWords) ∨
      ∃ m, t.slots = mapBank (dropOne m) s.slots ∧ t.freeWords = s.freeWords + s.dropWords m := by
  cases step with
  | recovery step => exact .inl step.slots_eq
  | recoveries counts taken _ =>
    obtain ⟨slots, words⟩ := Recovery.all_slots_eq taken
    exact .inl ⟨slots.trans (by rw [counts.1]), words.trans (by rw [counts.1])⟩
  | cutOff m | clear m => exact .inr ⟨m, rfl, rfl⟩
  | link | port | promote | silence | join | score | limit | relax => exact .inl ⟨rfl, rfl⟩

theorem State.SlotsFrom.of_follow {R : Slot → Slot → Prop} (step : Follow s t) (refl : ∀ x, R x x)
    (drop : ∀ x y, x.Continues y → y.phase = x.phase → R x y) : s.SlotsFrom R t := by
  obtain ⟨same, -⟩ | ⟨m, mapped, -⟩ := step.slots_cases
  · exact .of_slots same refl
  · exact .of_mapBank mapped rfl fun x y live => drop x y (dropOne_continues live).1 (dropOne_continues live).2

/-- What the slot `x` and the slot `y` that it becomes in a move from stage `a` to stage `b` have in common; which phases it takes
where a write data beat ends the burst, FillsSound of the state `s` says. -/
def Slot.Becomes (a b : Stage) (s : State) (x y : Slot) : Prop :=
  x.Continues y ∧ (s.FillsSound → a.Moves b x.phase y.phase)

theorem Slot.Becomes.refl (a b : Stage) (s : State) (x : Slot) : x.Becomes a b s x := ⟨.refl x, fun _ => a.moves_same b _⟩

/-- R5: a live slot after a move was live before it, and the move keeps its identity; but an admission allocates a FREE slot. -/
theorem Move.slots (step : Move c a s b t) :
    s.SlotsFrom (Slot.Becomes a b s) t ∨ ∃ p k r, a = .fresh ∧ b = .done ∧ s.admissible p = some r ∧ s.lowestFree = some k ∧
      t = s.allocate p k r := by
  have refl (x : Slot) : x.Becomes a b s x := .refl a b s x
  have same {t : State} (slots : t.slots = s.slots) : s.SlotsFrom (Slot.Becomes a b s) t := .of_slots slots refl
  cases step with
  | allocate _ p k r due free => exact .inr ⟨p, k, r, rfl, rfl, due, free, rfl⟩
  | follow step =>
    refine .inl (.of_follow step refl fun x y keeps phase => ⟨keeps, fun _ => ?_⟩)
    rw [phase]
    exact a.moves_same _ _
  | fillMore _ p k x rest bt head live more =>
    obtain ⟨keeps, phase⟩ := x.takeBeat_continues bt
    exact .inl (.of_setSlot live rfl ⟨keeps, fun _ => .inl phase⟩ refl)
  | fillEnd _ p k x y rest l bt head live ends =>
    obtain ⟨keeps, left⟩ := ends.continues
    refine .inl (.of_setSlot live rfl ⟨(x.takeBeat_continues bt).1.trans keeps, fun fills => ?_⟩ refl)
    exact .inr (.inl ⟨(fills.head_filling head live).1, left⟩)
  | stall _ k x live _ => exact .inl (.of_freeSlot refl (k := k) rfl)
  | free _ k x live _ => exact .inl (.of_freeSlot refl rfl)
  | dropOrphan _ k x _ _ => exact .inl (.of_freeSlot refl rfl)
  | deliver _ k x r live ready _ =>
    exact .inl (.of_setSlot live rfl ⟨⟨rfl, id⟩, fun _ => .inr (.inr (.inr (.inr ⟨ready, rfl⟩)))⟩ refl)
  | advance _ k x live _ => exact .inl (.of_setSlot live rfl ⟨⟨rfl, id⟩, fun _ => .inl rfl⟩ refl)
  | grant _ w k x _ candidate live =>
    have queued : x.phase = .queued := by
      obtain ⟨y, live', -, -, phase, -⟩ := State.oldest_some _ _ _ _ candidate
      obtain rfl := Option.some.inj (live.symm.trans live')
      simpa using phase
    refine .inl (.of_setSlot (y := { x with phase := .issued }) live ?_
      ⟨⟨rfl, id⟩, fun _ => .inr (.inr (.inl ⟨queued, .inl rfl⟩))⟩ refl)
    rw [State.deferAt_frame]; rfl
  | storeBeat _ k x word status _ issued _ =>
    obtain ⟨-, e⟩ | ⟨-, e⟩ := s.storeBeat_cases k x word status <;> rw [e]
    · exact .inl (same rfl)
    · exact .inl (.of_setSlot (s.issued_some k x issued).1 rfl ⟨⟨rfl, id⟩, fun _ => rfl⟩ refl)
  | finish _ k x r corrected words _ issued _ _ =>
    obtain ⟨live, phase⟩ := s.issued_some k x issued
    exact .inl (.of_setSlot live rfl
      ⟨⟨rfl, id⟩, fun _ => .inr (.inr (.inr (.inl ⟨phase, rfl⟩)))⟩ refl)
  | assess _ h _ =>
    unfold State.assess
    split
    · exact .inl (.of_mapBank rfl rfl fun x y live => ⟨(failOne_continues live).1, fun _ => (failOne_continues live).2⟩)
    · exact .inl (same rfl)
  | memory _ mem h =>
    unfold State.assess
    split
    · refine .inl (.of_mapBank rfl rfl fun x y live => ⟨(failOne_continues live).1, fun _ => ?_⟩)
      exact Phase.Moves.fails (.inl rfl) (failOne_continues live).2
    · exact .inl (same rfl)
  | failQueued _ _ =>
    exact .inl (.of_mapBank rfl rfl fun x y live => ⟨(failOne_continues live).1, fun _ => (failOne_continues live).2⟩)
  | timers =>
    refine .inl (.of_mapBank rfl rfl fun x y live => ?_)
    obtain rfl := Option.some.inj live
    exact ⟨⟨rfl, id⟩, fun _ => .inl rfl⟩
  | pop _ _ _ rest _ => split <;> exact .inl (same rfl)
  | serviceReset _ _ => exact .inl (.of_no_slot fun k => by simp [State.serviceReset, State.slot])
  | resetValues _ _ o onPort _ => exact .inl (.of_no_slot fun k => by simp [State.resetValues, State.reset, State.slot])
  | isolate _ _ m _ _ =>
    refine .inl (.of_mapBank rfl rfl fun x y live => ⟨(dropOne_continues live).1, fun _ => .inl (dropOne_continues live).2⟩)
  | close | edge | mode | fill | window | timing | deferral | mask | enables | clearFlags | recoveryMode | clearActive | clearLimited
  | restore | resetReleased | resetAsserted => exact .inl (same rfl)

end

end Sys2Proof.Machine
end

section
/-! SUPPORT. The write-data lists under every move (R22), and the life of a slot over a whole command (R5, O50). -/

namespace Sys2Proof.Machine

open Relation (ReflTransGen)

section
variable {c : Instr} {s t u v : State} {a b : Stage} {m p q : Master} {k : SlotIx} {x y z : Slot}

/-! ### Write-data lists (R22) -/

/-- The fill entries of a write-data list, in its order. -/
def fillEntries (l : List ListEntry) : List ListEntry := l.filter (· != .discard)

theorem mem_fillEntries {l : List ListEntry} : ListEntry.fill k ∈ fillEntries l ↔ ListEntry.fill k ∈ l := by simp [fillEntries]

@[simp] theorem fillEntries_discard (l : List ListEntry) : fillEntries (.discard :: l) = fillEntries l := by simp [fillEntries]

@[simp] theorem fillEntries_fill (k : SlotIx) (l : List ListEntry) : fillEntries (.fill k :: l) = .fill k :: fillEntries l := by
  simp [fillEntries]

@[simp] theorem fillEntries_append (l l' : List ListEntry) : fillEntries (l ++ l') = fillEntries l ++ fillEntries l' :=
  List.filter_append ..

@[simp] theorem fillEntries_map_toDiscard (l : List ListEntry) : fillEntries (l.map ListEntry.toDiscard) = [] := by
  simp [fillEntries, ListEntry.toDiscard]

/-- R37: a list whose fill entry of slot `k` has become a discard entry. -/
theorem fillEntries_map_unfill (k : SlotIx) (l : List ListEntry) :
    fillEntries (l.map (ListEntry.unfill k)) = (fillEntries l).filter (· != .fill k) := by
  induction l with
  | nil => rfl
  | cons e l ih =>
    cases e with
    | discard => simpa [ListEntry.unfill] using ih
    | fill j =>
      by_cases self : j = k
      · subst self; simpa [ListEntry.unfill] using ih
      · simpa [ListEntry.unfill, self] using ih

/-- R22: what FillsSound says of the list of port `p`. -/
structure State.ListSound (s : State) (p : Master) : Prop where
  room   : (s.port p).writeList.length ≤ 4
  nodup  : (fillEntries (s.port p).writeList).Nodup
  named  : ∀ k, ListEntry.fill k ∈ (s.port p).writeList → ∃ x, s.slot k = some x ∧ x.phase = .filling ∧ x.master = p

theorem State.fillsSound_iff : s.FillsSound ↔ ∀ p, s.ListSound p := by
  have named (p : Master) (k : SlotIx) : (s.slot k).any (fun x => x.phase == .filling && x.master == p) = true ↔
      ∃ x, s.slot k = some x ∧ x.phase = .filling ∧ x.master = p := by
    cases s.slot k <;> simp
  constructor
  · intro h p
    obtain ⟨room, nodup, names⟩ := h p
    exact ⟨room, nodup, fun k entry => (named p k).mp (names k entry)⟩
  · intro h p
    exact ⟨(h p).room, (h p).nodup, fun k entry => (named p k).mpr ((h p).named k entry)⟩

/-- A list stays sound where it has room, gains no fill entry, and the slots that its fill entries name stay FILLING. -/
theorem State.ListSound.after (h : s.ListSound p) (room : (t.port p).writeList.length ≤ 4)
    (fewer : (fillEntries (t.port p).writeList).Sublist (fillEntries (s.port p).writeList))
    (filling : ∀ k x, ListEntry.fill k ∈ (t.port p).writeList → s.slot k = some x → x.phase = .filling → x.master = p →
      ∃ y, t.slot k = some y ∧ y.phase = .filling ∧ y.master = p) : t.ListSound p where
  room := room
  nodup := h.nodup.sublist fewer
  named k entry := by
    have before : ListEntry.fill k ∈ (s.port p).writeList := mem_fillEntries.mp (fewer.subset (mem_fillEntries.mpr entry))
    obtain ⟨x, live, phase, master⟩ := h.named k before
    exact filling k x entry live phase master

/-- A list that is the same stays sound where the slots that it names stay FILLING. -/
theorem State.ListSound.of_same (h : s.ListSound p) (same : (t.port p).writeList = (s.port p).writeList)
    (filling : ∀ k x, ListEntry.fill k ∈ (s.port p).writeList → s.slot k = some x → x.phase = .filling → x.master = p →
      ∃ y, t.slot k = some y ∧ y.phase = .filling ∧ y.master = p) : t.ListSound p :=
  h.after (same ▸ h.room) (by rw [same]) (by rw [same]; exact filling)

theorem State.FillsSound.of_fields (h : s.FillsSound) (slots : t.slots = s.slots)
    (lists : ∀ p, (t.port p).writeList = (s.port p).writeList) : t.FillsSound :=
  State.fillsSound_iff.mpr fun p => (State.fillsSound_iff.mp h p).of_same (lists p) fun k x _ live phase master =>
    ⟨x, (State.slot_congr slots k).trans live, phase, master⟩

/-- One slot that is not FILLING becomes another, or is freed. -/
theorem State.FillsSound.of_slot (h : s.FillsSound) (live : s.slot k = some x) (phase : x.phase ≠ .filling)
    (others : ∀ j, j ≠ k → t.slot j = s.slot j) (lists : ∀ p, (t.port p).writeList = (s.port p).writeList) : t.FillsSound :=
  State.fillsSound_iff.mpr fun p => (State.fillsSound_iff.mp h p).of_same (lists p) fun j y _ live' phase' master => by
    by_cases self : j = k
    · subst self
      obtain rfl := Option.some.inj (live.symm.trans live')
      exact absurd phase' phase
    · exact ⟨y, (others j self).trans live', phase', master⟩

/-- Every slot is mapped, and a FILLING one stays so with its master. -/
theorem State.FillsSound.of_mapBank (h : s.FillsSound) {f : Option Slot → Option Slot} (slots : t.slots = mapBank f s.slots)
    (lists : ∀ p, (t.port p).writeList = (s.port p).writeList)
    (filling : ∀ x, x.phase = .filling → ∃ y, f (some x) = some y ∧ y.phase = .filling ∧ y.master = x.master) : t.FillsSound :=
  State.fillsSound_iff.mpr fun p => (State.fillsSound_iff.mp h p).of_same (lists p) fun k x _ live phase master => by
    obtain ⟨y, image, phase', master'⟩ := filling x phase
    refine ⟨y, ?_, phase', master'.trans master⟩
    rw [State.slot_congr (t := t) (s := { s with slots := mapBank f s.slots }) slots k, s.mapBank_slot f k, live, image]

theorem failOne_filling {fill : Word} (filling : x.phase = .filling) :
    ∃ y, failOne fill (some x) = some y ∧ y.phase = .filling ∧ y.master = x.master :=
  ⟨x, by simp [failOne, filling], filling, rfl⟩

theorem State.FillsSound.assess (h : s.FillsSound) (health : Health) : (s.assess health).FillsSound := by
  unfold State.assess
  split
  · exact h.of_mapBank rfl (fun _ => rfl) fun x filling => failOne_filling filling
  · exact h.of_fields rfl fun _ => rfl

/-- R10: dropping the slots of master `m` leaves the FILLING slots of every other. -/
theorem dropOne_filling_other (filling : x.phase = .filling) (other : x.master ≠ m) :
    ∃ y, dropOne m (some x) = some y ∧ y.phase = .filling ∧ y.master = x.master :=
  ⟨x, dropOne_other m x (by simp [Slot.ownedBy, other]), filling, rfl⟩

/-- R39, R40: the slots of master `m` are dropped, and its list names no slot any more. -/
theorem State.FillsSound.of_drop (h : s.FillsSound) (slots : t.slots = mapBank (dropOne m) s.slots)
    (own : fillEntries (t.port m).writeList = [] ∧ (t.port m).writeList.length ≤ 4)
    (others : ∀ p, p ≠ m → (t.port p).writeList = (s.port p).writeList) : t.FillsSound :=
  State.fillsSound_iff.mpr fun p => by
    by_cases self : p = m
    · subst self
      refine ⟨own.2, own.1 ▸ List.nodup_nil, fun k entry => ?_⟩
      rw [← mem_fillEntries, own.1] at entry
      cases entry
    · refine (State.fillsSound_iff.mp h p).of_same (others p self) fun k x _ live phase master => ?_
      obtain ⟨y, image, phase', master'⟩ := dropOne_filling_other phase (master ▸ self)
      refine ⟨y, ?_, phase', master'.trans master⟩
      rw [State.slot_congr (t := t) (s := { s with slots := mapBank (dropOne m) s.slots }) slots k, s.mapBank_slot _ k, live, image]

theorem State.FillsSound.clearPort (h : s.FillsSound) (p : Master) : (s.clearPort p).FillsSound :=
  h.of_drop (m := p) rfl (by simp [fillEntries]) fun q other => by rw [s.clearPort_port_ne other]

theorem State.FillsSound.cutOff (h : s.FillsSound) (m : Master) : (s.cutOff m).FillsSound :=
  h.of_drop (m := m) rfl (by simpa using (h m).1) fun q other => by rw [s.cutOff_port_ne other]

/-- R22: a list that gives up or gains a discard entry. -/
theorem ListShift.sound {l l' : List ListEntry} (shift : ListShift l l') (room : l.length ≤ 4) :
    fillEntries l' = fillEntries l ∧ l'.length ≤ 4 := by
  cases shift with
  | same => exact ⟨rfl, room⟩
  | pop => exact ⟨by simp, by simp at room; omega⟩
  | push free => exact ⟨by simp [fillEntries], by simp; omega⟩

theorem State.FillsSound.setPort {l : Port} (h : s.FillsSound)
    (list : fillEntries l.writeList = fillEntries (s.port p).writeList ∧ l.writeList.length ≤ 4) : (s.setPort p l).FillsSound :=
  State.fillsSound_iff.mpr fun q => by
    by_cases self : q = p
    · subst self
      refine (State.fillsSound_iff.mp h q).after (by simpa using list.2) (by simp [list.1]) fun k x _ live phase master => ?_
      exact ⟨x, live, phase, master⟩
    · refine (State.fillsSound_iff.mp h q).of_same (by rw [s.setPort_port_ne p l self]) fun k x _ live phase master => ?_
      exact ⟨x, live, phase, master⟩

theorem Recovery.lists (step : Recovery s t) : t.slots = s.slots ∧ ∀ p, (t.port p).writeList = (s.port p).writeList := by
  cases step with
  | hand r => simp
  | flags | draws => exact ⟨rfl, fun _ => rfl⟩
  | readmit m isolated =>
    refine ⟨rfl, fun p => ?_⟩
    by_cases self : p = m
    · subst self; simp
    · rw [s.readmit_port_ne self]

theorem Follow.fills (step : Follow s t) (h : s.FillsSound) : t.FillsSound := by
  cases step with
  | recovery step => exact h.of_fields step.lists.1 step.lists.2
  | recoveries counts taken _ =>
    refine Recovery.all_keep (fun u v step h => State.FillsSound.of_fields h step.lists.1 step.lists.2) taken ?_
    rw [counts.1]; exact h
  | port p x list _ => exact h.setPort (list.sound (h p).1)
  | promote => exact h.of_fields rfl fun p => by rw [s.mapBank_port, Port.promote_writeList]
  | cutOff m => exact h.cutOff m
  | clear p => exact h.clearPort p
  | link | silence | join | score | limit | relax => exact h.of_fields rfl fun _ => rfl

/-- R22, R24: an admission adds a fill entry exactly where its slot is FILLING, and a discard entry for another write. -/
theorem State.newEntries_cases (s : State) (p : Master) (k : SlotIx) (r : Request) :
    (s.newEntries p k r = [] ∧ r.kind = .read) ∨
      (s.newEntries p k r = [.discard] ∧ r.kind = .write) ∨
        (s.newEntries p k r = [.fill k] ∧ r.kind = .write ∧ (s.newSlot p r).phase = .filling) := by
  unfold State.newEntries
  split
  · exact .inl ⟨rfl, ‹_›⟩
  · split
    · exact .inr (.inr ⟨rfl, ‹_›, ‹_›⟩)
    · exact .inr (.inl ⟨rfl, ‹_›⟩)

theorem State.allocate_slot (s : State) (p : Master) (k j : SlotIx) (r : Request) :
    (s.allocate p k r).slot j = if j = k then some (s.newSlot p r) else s.slot j := s.setSlot_slot k j _

theorem State.allocate_writeList (s : State) (p q : Master) (k : SlotIx) (r : Request) :
    ((s.allocate p k r).port q).writeList =
      if q = p then (s.port p).writeList ++ s.newEntries p k r else (s.port q).writeList := by
  by_cases self : q = p
  · subst self; simp [State.allocate]; rfl
  · rw [if_neg self]
    exact congrArg Port.writeList (State.setPort_port_ne _ p _ self)

theorem State.FillsSound.allocate {r : Request} (h : s.FillsSound) (due : s.admissible p = some r) (free : s.lowestFree = some k) :
    (s.allocate p k r).FillsSound := by
  obtain ⟨-, -, -, room⟩ := State.ready17_facts (State.ready17_of_admissible due).1
  obtain ⟨empty, -⟩ := State.lowestFree_some free
  rw [State.fillsSound_iff] at h ⊢
  intro q
  have stays {j : SlotIx} (entry : ListEntry.fill j ∈ (s.port q).writeList) :
      ∃ y, (s.allocate p k r).slot j = some y ∧ y.phase = .filling ∧ y.master = q := by
    obtain ⟨x, live, facts⟩ := (h q).named j entry
    have other : j ≠ k := fun self => by rw [self, empty] at live; cases live
    exact ⟨x, by rw [s.allocate_slot, if_neg other, live], facts⟩
  by_cases self : q = p
  · subst self
    have written := s.allocate_writeList q q k r
    rw [if_pos rfl] at written
    obtain ⟨e, -⟩ | ⟨e, write⟩ | ⟨e, write, begun⟩ := s.newEntries_cases q k r <;> rw [e] at written
    · exact ⟨by rw [written]; simpa using (h q).room, by rw [written]; simpa using (h q).nodup,
        fun j entry => stays (by simpa [written] using entry)⟩
    · have := room write
      exact ⟨by rw [written]; simp; omega, by rw [written]; simpa [fillEntries] using (h q).nodup,
        fun j entry => stays (by simpa [written] using entry)⟩
    · have := room write
      have fresh : ListEntry.fill k ∉ fillEntries (s.port q).writeList := fun entry => by
        obtain ⟨x, live, -⟩ := (h q).named k (mem_fillEntries.mp entry)
        rw [empty] at live; cases live
      refine ⟨by rw [written]; simp; omega, ?_, fun j entry => ?_⟩
      · rw [written, fillEntries_append]
        exact List.nodup_append'.mpr ⟨(h q).nodup, by simp [fillEntries], by simpa [fillEntries] using fresh⟩
      · rw [written, List.mem_append, List.mem_singleton] at entry
        obtain entry | entry := entry
        · exact stays entry
        · obtain rfl := ListEntry.fill.inj entry
          exact ⟨s.newSlot q r, by rw [s.allocate_slot, if_pos rfl], begun, rfl⟩
  · refine (h q).of_same (by rw [s.allocate_writeList, if_neg self]) fun j x entry _ _ _ => stays entry

/-- R33 to R37: the FILLING slot `k` leaves FILLING or is freed, and its fill entry leaves its list. -/
theorem State.FillsSound.leaves (h : s.FillsSound) (live : s.slot k = some x)
    (others : ∀ j, j ≠ k → t.slot j = s.slot j)
    (own : fillEntries (t.port x.master).writeList = (fillEntries (s.port x.master).writeList).filter (· != .fill k) ∧
      (t.port x.master).writeList.length ≤ 4)
    (lists : ∀ p, p ≠ x.master → (t.port p).writeList = (s.port p).writeList) : t.FillsSound := by
  rw [State.fillsSound_iff] at h ⊢
  intro p
  by_cases self : p = x.master
  · subst self
    refine (h _).after own.2 (own.1 ▸ List.filter_sublist) fun j y entry live' phase master => ?_
    have other : j ≠ k := fun same => by
      rw [← mem_fillEntries, own.1, same] at entry
      simp at entry
    exact ⟨y, (others j other).trans live', phase, master⟩
  · refine (h p).of_same (lists p self) fun j y _ live' phase master => ?_
    have other : j ≠ k := fun same => by
      rw [same, live] at live'
      obtain rfl := Option.some.inj live'
      exact self master.symm
    exact ⟨y, (others j other).trans live', phase, master⟩

/-- R34, R35: the list after the end of a burst is the old one without its head. -/
theorem FillEnds.list {rest l : List ListEntry} (ends : FillEnds s x rest y l) :
    fillEntries l = fillEntries rest ∧ l.length ≤ rest.length + 1 := by
  cases ends <;> simp

theorem Move.fills (step : Move c a s b t) (h : s.FillsSound) : t.FillsSound := by
  have same {t : State} (slots : t.slots = s.slots) (ports : t.ports = s.ports) : t.FillsSound :=
    h.of_fields slots fun p => by rw [State.port_congr ports p]
  have issuedSlot {k x} (issued : s.issued = some (k, x)) : s.slot k = some x ∧ x.phase ≠ .filling := by
    obtain ⟨live, phase⟩ := s.issued_some k x issued
    exact ⟨live, by rw [phase]; simp⟩
  cases step with
  | follow step => exact step.fills h
  | allocate _ p k r due free => exact h.allocate due free
  | fillMore _ p k x rest bt head live more =>
    refine State.fillsSound_iff.mpr fun q => (State.fillsSound_iff.mp h q).of_same rfl fun j y _ live' phase master => ?_
    rw [s.setSlot_slot k j]
    by_cases self : j = k
    · subst self
      obtain rfl := Option.some.inj (live.symm.trans live')
      obtain ⟨keeps, phase'⟩ := x.takeBeat_continues bt
      exact ⟨_, if_pos rfl, phase'.trans phase, keeps.master.trans master⟩
    · exact ⟨y, (if_neg self).trans live', phase, master⟩
  | fillEnd _ p k x y rest l bt head live ends =>
    obtain ⟨-, rfl⟩ := h.head_filling head live
    obtain ⟨room, nodup, -⟩ := State.fillsSound_iff.mp h x.master
    obtain ⟨entries, length⟩ := ends.list
    rw [head] at room nodup
    rw [fillEntries_fill, List.nodup_cons] at nodup
    refine h.leaves live (fun j other => s.setSlot_slot_ne k _ other) ⟨?_, ?_⟩
      fun q other => congrArg Port.writeList (State.setPort_port_ne _ _ _ other)
    · simp only [State.setWriteList, State.setPort_port_self, entries, head, fillEntries_fill]
      rw [List.filter_cons_of_neg (by simp), List.filter_eq_self.mpr]
      intro e entry
      simpa using fun same : e = .fill k => nodup.1 (same ▸ entry)
    · simp only [State.setWriteList, State.setPort_port_self]
      simp at room
      omega
  | stall _ k x live filling =>
    refine h.leaves live (fun j other => ?_) ⟨?_, ?_⟩ fun q other => ?_
    · exact (s.freeSlot_slot k j).trans (if_neg other)
    · simp [State.setWriteList, fillEntries_map_unfill, State.freeSlot_port]
    · simpa [State.setWriteList, State.freeSlot_port] using (h x.master).1
    · rw [State.setWriteList, State.setPort_port_ne _ _ _ other, s.freeSlot_port]
  | free _ k x live delivering =>
    refine h.of_slot live (by simp [delivering]) (fun j other => (s.freeSlot_slot k j).trans (if_neg other)) fun p => ?_
    rw [s.freeSlot_port]
  | dropOrphan _ k x _ issued =>
    obtain ⟨live, phase⟩ := issuedSlot issued
    refine h.of_slot live phase (fun j other => (s.freeSlot_slot k j).trans (if_neg other)) fun p => ?_
    rw [s.freeSlot_port]
  | deliver _ k x r live ready _ => exact h.of_slot live (by simp [ready]) (fun j other => s.setSlot_slot_ne k _ other) fun _ => rfl
  | advance _ k x live delivering =>
    exact h.of_slot live (by simp [delivering]) (fun j other => s.setSlot_slot_ne k _ other) fun _ => rfl
  | grant _ w k x _ candidate live =>
    obtain ⟨y, live', -, -, phase, -⟩ := State.oldest_some _ _ _ _ candidate
    obtain rfl := Option.some.inj (live.symm.trans live')
    have queued : x.phase ≠ .filling := by rw [beq_iff_eq.mp phase]; simp
    refine h.of_slot live queued (fun j other => ?_) fun p => ?_
    · exact (State.slot_congr (by rw [State.deferAt_frame]; rfl) j).trans (s.setSlot_slot_ne k _ other)
    · exact congrArg Port.writeList (State.port_congr (by rw [State.deferAt_frame]; rfl) p)
  | storeBeat _ k x word status _ issued _ =>
    obtain ⟨live, phase⟩ := issuedSlot issued
    obtain ⟨-, e⟩ | ⟨-, e⟩ := s.storeBeat_cases k x word status <;> rw [e]
    · exact h
    · exact h.of_slot live phase (fun j other => s.setSlot_slot_ne k _ other) fun _ => rfl
  | finish _ k x r corrected words _ issued _ _ =>
    obtain ⟨live, phase⟩ := issuedSlot issued
    exact h.of_slot live phase (fun j other => s.setSlot_slot_ne k _ other) fun _ => rfl
  | assess _ health _ => exact h.assess health
  | memory _ mem health => exact State.FillsSound.assess (s := { s with mem := mem }) h health
  | failQueued _ _ => exact h.of_mapBank rfl (fun _ => rfl) fun x filling => failOne_filling filling
  | timers => exact h.of_mapBank rfl (fun _ => rfl) fun x filling => ⟨_, rfl, filling, rfl⟩
  | pop _ _ _ rest _ => split <;> exact same rfl rfl
  | isolate _ _ m _ _ => exact h.cutOff m
  | restore _ _ m _ isolated =>
    obtain ⟨slots, lists⟩ := Recovery.lists (.readmit s m isolated)
    exact h.of_fields slots lists
  | serviceReset _ _ =>
    refine State.fillsSound_iff.mpr fun p => ?_
    have written : (s.serviceReset.port p).writeList = (s.port p).writeList.map ListEntry.toDiscard := by
      simp [State.serviceReset, State.port, Port.afterService, Port.resetList]
    refine ⟨by simpa [written] using (h p).1, by simp [written], fun k entry => ?_⟩
    rw [← mem_fillEntries, written, fillEntries_map_toDiscard] at entry
    cases entry
  | resetValues _ _ o onPort lists =>
    refine State.fillsSound_iff.mpr fun p => ?_
    have image : (s.resetValues o onPort).port p = onPort (s.port p) := by simp [State.resetValues, State.port]
    have emptied : fillEntries (onPort (s.port p)).writeList = [] ∧ (onPort (s.port p)).writeList.length ≤ 4 := by
      obtain rfl | rfl := lists
      · simp [Port.afterPower, Port.empty, fillEntries]
      · simpa [Port.afterPin, Port.resetList] using (h p).1
    refine ⟨by rw [image]; exact emptied.2, by rw [image, emptied.1]; exact List.nodup_nil, fun k entry => ?_⟩
    rw [← mem_fillEntries, image, emptied.1] at entry
    cases entry
  | close | edge | mode | fill | window | timing | deferral | mask | enables | clearFlags | recoveryMode | clearActive | clearLimited
  | resetReleased | resetAsserted => exact same rfl rfl

/-! ### The life of a slot over a command -/

/-- What a command has made of the live slots of `s` when it has come to the stage `a`. -/
def State.LivesOn (s : State) (a : Stage) (u : State) : Prop :=
  u.FillsSound ∧ (a = .fresh → ∀ k, u.slot k = none → s.slot k = none) ∧
    ∀ k x y, s.slot k = some x → u.slot k = some y → x.Continues y ∧ (if a = .fresh then y.phase = x.phase else x.phase.Moves y.phase)

/-- The phases of a slot over the moves so far and one more. -/
theorem Stage.Moves.after {f g h : Phase} (before : if a = .fresh then g = f else f.Moves g) (moved : a.Moves b g h)
    (first : b = .fresh → a = .fresh) : if b = .fresh then h = f else f.Moves h := by
  by_cases start : a = .fresh
  · subst start
    rw [if_pos rfl] at before
    subst before
    cases b with
    | fresh => exact moved
    | ending | closing | done => exact moved
  · rw [if_neg start] at before
    rw [if_neg fun again => start (first again)]
    have fails : g.Fails h := by
      cases a with
      | fresh => exact absurd rfl start
      | ending | closing | done => exact moved
    exact before.fails fails

/-- The moves after which nothing has ended yet free no slot. -/
theorem Move.to_fresh (step : Move c a s .fresh t) : a = .fresh ∧ ∀ k, t.slot k = none → s.slot k = none := by
  generalize target : Stage.fresh = b at step
  cases step with
  | follow step => cases a <;> cases target
  | storeBeat _ k x word status _ issued _ =>
    refine ⟨rfl, fun j free => ?_⟩
    obtain ⟨-, e⟩ | ⟨-, e⟩ := s.storeBeat_cases k x word status <;> rw [e] at free
    · exact free
    · replace free : (s.setSlot k _).slot j = none := free
      rw [s.setSlot_slot k j] at free
      split at free
      · cases free
      · exact free
  | resetAsserted => exact ⟨rfl, fun _ free => free⟩
  | _ => cases target

theorem Move.livesOn (step : Move c a u b v) (h : s.LivesOn a u) : s.LivesOn b v := by
  obtain ⟨fills, live, lives⟩ := h
  have first (fresh : b = .fresh) : a = .fresh := by subst fresh; exact step.to_fresh.1
  refine ⟨step.fills fills, fun fresh k free => ?_, fun k x z before after => ?_⟩
  · subst fresh
    exact live step.to_fresh.1 k (step.to_fresh.2 k free)
  · obtain stayed | ⟨p, j, r, rfl, rfl, -, free, rfl⟩ := step.slots
    · obtain ⟨y, between, keeps, moved⟩ := stayed k z after
      obtain ⟨kept, phase⟩ := lives k x y before between
      exact ⟨kept.trans keeps, (moved fills).after phase first⟩
    · have other : k ≠ j := fun self => by
        have := live rfl j (State.lowestFree_some free).1
        rw [← self, before] at this
        cases this
      rw [u.allocate_slot, if_neg other] at after
      obtain ⟨kept, phase⟩ := lives k x z before after
      rw [if_pos rfl] at phase
      exact ⟨kept, .inl phase⟩

/-- Settles O50: every move keeps the identity of a slot and moves its phase by a line of R5, a command by one line in all. -/
theorem slotsKeepTheirIdentity : Obligations.SlotsKeepTheirIdentity := by
  intro c s t k x y fills e before after
  have start : s.LivesOn .fresh s :=
    ⟨fills, fun _ _ free => free, fun k x y before after => by
      obtain rfl := Option.some.inj (before.symm.trans after)
      exact ⟨.refl x, rfl⟩⟩
  have result : x.Continues y ∧ x.phase.Moves y.phase := by
    obtain ⟨-, -, lives⟩ | ⟨-, -, lives⟩ := (exec_course e).keeps s.LivesOn start fun _ _ _ _ => Move.livesOn
    · exact ⟨(lives k x y before after).1, .inl (lives k x y before after).2⟩
    · exact lives k x y before after
  obtain ⟨⟨identity, orphan⟩, phase⟩ := result
  simp only [Slot.identity, Prod.mk.injEq] at identity
  obtain ⟨master, tag, kind, address, beats, reserved, window, admission⟩ := identity
  exact ⟨master, tag, kind, address, beats, reserved, window, admission, orphan, phase⟩

end

end Sys2Proof.Machine
end

section
/-! SUPPORT. The data buffer and the slot limits under every move (R12, R28). -/

namespace Sys2Proof.Machine

open Relation (ReflTransGen)

section
variable {c : Instr} {s t u v : State} {a b : Stage} {m n p q : Master} {k : SlotIx} {x y z : Slot}

/-! ### The reserved words (R28) -/

/-- The buffer words that a slot record holds. -/
def wordsOf (o : Option Slot) : Nat := o.elim 0 Slot.reserved

theorem State.reservedAt_eq (s : State) (k : SlotIx) : s.reservedAt k = wordsOf (s.slot k) := by
  unfold State.reservedAt
  cases s.slot k <;> rfl

/-- The reserved words of all live slots. -/
def State.reservedWords (s : State) : Nat := (allSlots.map s.reservedAt).sum

theorem sum_map_erase (f : SlotIx → Nat) (k : SlotIx) : (allSlots.map f).sum = f k + ((allSlots.erase k).map f).sum := by
  have order := (List.perm_cons_erase (mem_allSlots k)).map f
  rw [order.sum_eq, List.map_cons, List.sum_cons]

/-- Where one slot alone changes, the sum of the reserved words changes by its words. -/
theorem State.reservedWords_change (others : ∀ j, j ≠ k → t.slot j = s.slot j) :
    t.reservedWords + s.reservedAt k = s.reservedWords + t.reservedAt k := by
  have rest : (allSlots.erase k).map t.reservedAt = (allSlots.erase k).map s.reservedAt := by
    refine List.map_congr_left fun j member => ?_
    rw [State.reservedAt_eq, State.reservedAt_eq, others j fun self => nodup_allSlots.not_mem_erase (self ▸ member)]
  unfold State.reservedWords
  rw [sum_map_erase t.reservedAt k, sum_map_erase s.reservedAt k, rest]
  omega

theorem State.bufferAccounted_iff : s.BufferAccounted ↔ s.freeWords + s.reservedWords = 64 := Iff.rfl

/-- The account stays where the words of every slot stay. -/
theorem State.BufferAccounted.of_words (h : s.BufferAccounted) (free : t.freeWords = s.freeWords)
    (words : ∀ k, wordsOf (t.slot k) = wordsOf (s.slot k)) : t.BufferAccounted := by
  have same : t.reservedAt = s.reservedAt := funext fun k => by rw [State.reservedAt_eq, State.reservedAt_eq, words k]
  show t.freeWords + (allSlots.map t.reservedAt).sum = 64
  rw [free, same]
  exact h

theorem State.BufferAccounted.of_slots (h : s.BufferAccounted) (free : t.freeWords = s.freeWords) (slots : t.slots = s.slots) :
    t.BufferAccounted := h.of_words free fun k => by rw [State.slot_congr slots k]

theorem State.BufferAccounted.setSlot (h : s.BufferAccounted) (live : s.slot k = some x) (kept : y.reserved = x.reserved)
    (free : t.freeWords = s.freeWords) (slots : t.slots = (s.setSlot k (some y)).slots) : t.BufferAccounted :=
  h.of_words free fun j => by
    rw [State.slot_congr slots j, s.setSlot_slot k j]
    split
    · rename_i self; rw [self, live]; exact kept
    · rfl

theorem State.BufferAccounted.mapBank (h : s.BufferAccounted) {f : Option Slot → Option Slot} (slots : t.slots = mapBank f s.slots)
    (free : t.freeWords = s.freeWords) (kept : ∀ o, wordsOf (f o) = wordsOf o) : t.BufferAccounted :=
  h.of_words free fun j => by
    rw [State.slot_congr (t := t) (s := { s with slots := Machine.mapBank f s.slots }) slots j, s.mapBank_slot f j, kept]

/-- R6: freeing a slot returns its words. -/
theorem State.BufferAccounted.freeSlot (h : s.BufferAccounted) (k : SlotIx) : (s.freeSlot k).BufferAccounted := by
  cases live : s.slot k with
  | none => rw [s.freeSlot_free k live]; exact h
  | some x =>
    have change := State.reservedWords_change (s := s) (t := s.freeSlot k) (k := k)
      fun j other => (s.freeSlot_slot k j).trans (if_neg other)
    rw [s.reservedAt_eq, live, State.reservedAt_eq, s.freeSlot_slot k k, if_pos rfl] at change
    have freed : (s.freeSlot k).freeWords = s.freeWords + x.reserved := by rw [s.freeSlot_live k x live]
    rw [State.bufferAccounted_iff] at h ⊢
    simp only [wordsOf, Option.elim] at change
    omega

/-- R10: dropping the slots of a master returns their words. -/
theorem State.BufferAccounted.drop (h : s.BufferAccounted) (slots : t.slots = Machine.mapBank (dropOne m) s.slots)
    (free : t.freeWords = s.freeWords + s.dropWords m) : t.BufferAccounted := by
  have each (k : SlotIx) : t.reservedAt k + (match s.slot k with
      | some x => if x.droppedWith m then x.reserved else 0
      | none => 0) = s.reservedAt k := by
    rw [State.reservedAt_eq, State.reservedAt_eq,
      State.slot_congr (t := t) (s := { s with slots := Machine.mapBank (dropOne m) s.slots }) slots k, s.mapBank_slot _ k]
    cases s.slot k with
    | none => rfl
    | some x =>
      by_cases dropped : x.droppedWith m = true
      · simp [dropOne, wordsOf, dropped]
      · by_cases owned : x.ownedBy m = true <;> simp [dropOne, wordsOf, dropped, owned]
  have total : t.reservedWords + s.dropWords m = s.reservedWords := by
    unfold State.reservedWords State.dropWords
    rw [← List.sum_map_add]
    exact congrArg List.sum (List.map_congr_left fun k _ => each k)
  rw [State.bufferAccounted_iff] at h ⊢
  omega

theorem failOne_words (fill : Word) (o : Option Slot) : wordsOf (failOne fill o) = wordsOf o := by
  cases o with
  | none => rfl
  | some x =>
    simp only [failOne, Option.map_some]
    split <;> rfl

theorem State.BufferAccounted.assess (h : s.BufferAccounted) (health : Health) : (s.assess health).BufferAccounted := by
  unfold State.assess
  split
  · exact h.mapBank rfl rfl (failOne_words s.fill)
  · exact h

/-- R24, R28: an admission takes the need of its request out of the buffer, which holds it. -/
theorem State.BufferAccounted.allocate {r : Request} (h : s.BufferAccounted) (due : s.admissible p = some r)
    (free : s.lowestFree = some k) : (s.allocate p k r).BufferAccounted := by
  have fits := (State.ready17_of_admissible due).2
  have change := State.reservedWords_change (s := s) (t := s.allocate p k r) (k := k)
    fun j other => (s.allocate_slot p k j r).trans (if_neg other)
  rw [s.reservedAt_eq, (State.lowestFree_some free).1, State.reservedAt_eq, s.allocate_slot, if_pos rfl] at change
  have taken : (s.allocate p k r).freeWords = s.freeWords - s.need p r := rfl
  have need : wordsOf (some (s.newSlot p r)) = s.need p r := rfl
  rw [State.bufferAccounted_iff] at h ⊢
  simp only [wordsOf, Option.elim] at change need
  omega

theorem State.bufferAccounted_of_none (none : ∀ k, t.slot k = none) (free : t.freeWords = 64) : t.BufferAccounted := by
  have zero : t.reservedAt = fun _ => 0 := funext fun k => by rw [State.reservedAt_eq, none k]; rfl
  show t.freeWords + (allSlots.map t.reservedAt).sum = 64
  rw [free, zero]
  decide

theorem Follow.buffer (step : Follow s t) (h : s.BufferAccounted) : t.BufferAccounted := by
  obtain ⟨slots, free⟩ | ⟨m, slots, free⟩ := step.slots_cases
  · exact h.of_slots free slots
  · exact h.drop slots free

theorem Move.buffer (step : Move c a s b t) (h : s.BufferAccounted) : t.BufferAccounted := by
  cases step with
  | follow step => exact step.buffer h
  | allocate _ p k r due free => exact h.allocate due free
  | fillMore _ p k x rest bt head live more => exact h.setSlot live (x.takeBeat_continues bt).1.reserved rfl rfl
  | fillEnd _ p k x y rest l bt head live ends =>
    exact h.setSlot live ((x.takeBeat_continues bt).1.trans ends.continues.1).reserved rfl rfl
  | stall _ k x => exact (h.freeSlot k).of_slots rfl rfl
  | free _ k x | dropOrphan _ k x => exact h.freeSlot k
  | deliver _ k x r live | advance _ k x live => exact h.setSlot live (by rfl) rfl rfl
  | grant _ w k x _ _ live =>
    refine h.setSlot (y := { x with phase := .issued }) live rfl ?_ ?_ <;> rw [State.deferAt_frame] <;> rfl
  | storeBeat _ k x word status _ issued _ =>
    obtain ⟨-, e⟩ | ⟨-, e⟩ := s.storeBeat_cases k x word status <;> rw [e]
    · exact h
    · exact h.setSlot (s.issued_some k x issued).1 (by rfl) rfl rfl
  | finish _ k x r corrected words _ issued _ _ => exact h.setSlot (s.issued_some k x issued).1 (by rfl) rfl rfl
  | assess _ health _ => exact h.assess health
  | memory _ mem health => exact State.BufferAccounted.assess (s := { s with mem := mem }) h health
  | failQueued _ _ => exact h.mapBank rfl rfl (failOne_words s.fill)
  | timers => exact h.mapBank rfl rfl fun o => by cases o <;> rfl
  | pop _ _ _ rest _ => split <;> exact h.of_slots rfl rfl
  | isolate _ _ m _ _ => exact h.drop (m := m) rfl rfl
  | serviceReset _ _ => exact State.bufferAccounted_of_none (fun k => by simp [State.serviceReset, State.slot]) rfl
  | resetValues _ _ o onPort _ =>
    exact State.bufferAccounted_of_none (fun k => by simp [State.resetValues, State.reset, State.slot]) rfl
  | close | edge | mode | fill | window | timing | deferral | mask | enables | clearFlags | recoveryMode | clearActive | clearLimited
  | restore | resetReleased | resetAsserted => exact h.of_slots rfl rfl

/-! ### The slot limits (R12) -/

/-- R12: a master holds no more slots where every slot that counts toward it did so before. -/
theorem State.held_le (fewer : ∀ k, t.owns m (fun _ => true) k = true → s.owns m (fun _ => true) k = true) : t.held m ≤ s.held m :=
  List.countP_mono_left fun k _ => fewer k

theorem State.held_congr (slots : t.slots = s.slots) (m : Master) : t.held m = s.held m := by
  unfold State.held State.owns
  congr 1
  funext k
  rw [State.slot_congr slots k]

/-- R10: a slot that counts toward a master after a move did so before, where the move keeps its identity. -/
theorem State.SlotsFrom.held_le {R : Slot → Slot → Prop} (h : s.SlotsFrom R t) (keeps : ∀ x y, R x y → x.Continues y) (m : Master) :
    t.held m ≤ s.held m := by
  refine State.held_le fun k owned => ?_
  obtain ⟨y, after, master, orphan, -⟩ := (t.owns_iff m _ k).mp owned
  obtain ⟨x, before, becomes⟩ := h k y after
  obtain kept := keeps x y becomes
  refine (s.owns_iff m _ k).mpr ⟨x, before, kept.master.symm.trans master, ?_, rfl⟩
  by_contra was
  rw [kept.2 (by simpa using was)] at orphan
  cases orphan

theorem countP_erase (f : SlotIx → Bool) (k : SlotIx) : allSlots.countP f = (if f k then 1 else 0) + (allSlots.erase k).countP f := by
  rw [(List.perm_cons_erase (mem_allSlots k)).countP_eq f, List.countP_cons]
  omega

/-- R12: an admission adds one slot to its master. -/
theorem State.allocate_held_le {r : Request} (s : State) (p : Master) (k : SlotIx) : (s.allocate p k r).held p ≤ s.held p + 1 := by
  have rest : (allSlots.erase k).countP ((s.allocate p k r).owns p fun _ => true) = (allSlots.erase k).countP (s.owns p fun _ => true) := by
    refine List.countP_congr fun j member => ?_
    have other : j ≠ k := fun self => nodup_allSlots.not_mem_erase (self ▸ member)
    unfold State.owns
    rw [s.allocate_slot, if_neg other]
  unfold State.held
  rw [countP_erase _ k, countP_erase (s.owns p _) k, rest]
  split <;> split <;> omega

theorem State.allocate_held_ne {r : Request} (s : State) (k : SlotIx) (other : m ≠ p) (free : s.slot k = none) :
    (s.allocate p k r).held m = s.held m := by
  unfold State.held
  refine List.countP_congr fun j _ => ?_
  unfold State.owns
  rw [s.allocate_slot]
  by_cases self : j = k
  · subst self
    rw [if_pos rfl, free]
    simp [State.newSlot, Slot.ownedBy, Ne.symm other]
  · rw [if_neg self]

/-- R80: a master whose slots are dropped holds none. -/
theorem State.held_of_drop (slots : t.slots = Machine.mapBank (dropOne m) s.slots) : t.held m = 0 := by
  refine (t.held_eq_zero m).mpr fun k y live master => ?_
  rw [State.slot_congr (t := t) (s := { s with slots := Machine.mapBank (dropOne m) s.slots }) slots k, s.mapBank_slot _ k] at live
  cases before : s.slot k with
  | none => rw [before] at live; cases live
  | some x =>
    rw [before, dropOne] at live
    split at live
    · cases live
    · rename_i kept
      split at live <;> obtain rfl := Option.some.inj live
      · rfl
      · rename_i unowned
        simp [Slot.ownedBy, master] at unowned
        exact unowned

theorem State.allocate_standing {r : Request} (s : State) (p m : Master) (k : SlotIx) :
    ((s.allocate p k r).conf m).standing = (s.conf m).standing := by
  unfold State.allocate
  obtain ⟨listed, e⟩ := State.leaveWaitList_conf (State.setPort (State.setCounter
    { s.setSlot k (some (s.newSlot p r)) with freeWords := s.freeWords - s.need p r } p (s.counter p + 1#8)) p
    { s.port p with head := none, writeList := (s.port p).writeList ++ s.newEntries p k r }) p m
  exact (congrArg Confinement.standing e :)

/-- R79: a master that is ISOLATED after a move was so before, or holds no slot any more. -/
def State.Isolates (s t : State) : Prop := ∀ m, (t.conf m).standing = .isolated → (s.conf m).standing = .isolated ∨ t.held m = 0

theorem State.Isolates.of_standing (same : ∀ m, (t.conf m).standing = (s.conf m).standing) : s.Isolates t := fun m isolated =>
  .inl ((same m).symm.trans isolated)

theorem State.Isolates.of_masters (masters : t.masters = s.masters) : s.Isolates t :=
  .of_standing fun m => congrArg _ (State.conf_congr masters m)

theorem State.Isolates.setConf {r : Confinement} (live : r.standing = .isolated → (s.conf m).standing = .isolated) :
    s.Isolates (s.setConf m r) := fun n isolated => .inl (by
  rw [s.setConf_conf m n r] at isolated
  split at isolated
  · rename_i self; rw [self]; exact live isolated
  · exact isolated)

theorem State.Isolates.cutOff (s : State) (m : Master) : s.Isolates (s.cutOff m) := fun n isolated => by
  by_cases self : n = m
  · subst self; exact .inr (State.held_of_drop (s := s) rfl)
  · rw [s.cutOff_conf_ne self] at isolated; exact .inl isolated

theorem State.Isolates.readmit (s : State) (m : Master) : s.Isolates (s.readmit m) := fun n isolated => .inl (by
  by_cases self : n = m
  · subst self; simp at isolated
  · rwa [s.readmit_conf_ne self] at isolated)

theorem State.limitsKept_of_none (none : ∀ k, t.slot k = none) : t.LimitsKept := fun m => by
  have zero : t.held m = 0 := (t.held_eq_zero m).mpr fun k x live => by rw [none k] at live; cases live
  exact ⟨by omega, fun _ => zero⟩

theorem Recovery.isolates (step : Recovery s t) : s.Isolates t := by
  cases step with
  | hand r => exact .of_masters (by simp)
  | flags | draws => exact .of_masters rfl
  | readmit m _ => exact .readmit s m

theorem Recovery.all_isolated (steps : ReflTransGen Recovery s t) (isolated : (t.conf m).standing = .isolated) :
    (s.conf m).standing = .isolated := by
  refine Recovery.all_keep (P := fun v => (v.conf m).standing = .isolated → (s.conf m).standing = .isolated)
    (fun u v step ih isolated => ih ?_) steps id isolated
  cases step with
  | hand r => simpa using isolated
  | flags | draws => exact isolated
  | readmit n _ =>
    by_cases self : m = n
    · subst self; simp at isolated
    · rwa [u.readmit_conf_ne self] at isolated

theorem Follow.isolates (step : Follow s t) : s.Isolates t := by
  cases step with
  | recovery step => exact step.isolates
  | recoveries counts taken _ =>
    refine fun m isolated => .inl ?_
    have before := Recovery.all_isolated taken isolated
    rwa [counts.2 m] at before
  | silence m => exact .setConf id
  | join p _ => exact State.Isolates.setConf (s := { s with waitList := s.waitList ++ [p] }) id
  | score m n _ _ _ => exact .setConf id
  | limit m n _ _ _ | relax m n _ _ _ => exact .setConf (by simp)
  | cutOff m => exact .cutOff s m
  | clear p =>
    refine .of_standing fun m => ?_
    by_cases self : m = p
    · subst self; simp
    · rw [s.clearPort_conf_ne self]
  | link | port | promote => exact .of_masters rfl

theorem Move.isolates (step : Move c a s b t) : s.Isolates t := by
  cases step with
  | follow step => exact step.isolates
  | allocate _ p k r due free =>
    exact .of_standing fun m => s.allocate_standing p m k
  | stall _ k | free _ k | dropOrphan _ k => exact .of_masters (congrArg State.masters (s.freeSlot_frame k) :)
  | grant _ w k x =>
    refine .of_standing fun m => ?_
    have conf : State.conf { (s.issue k x).deferAt w with pointer := w } m = ((s.issue k x).conf m).deferredAt s.deferral w m :=
      (s.issue k x).deferAt_conf w m
    rw [conf]; rfl
  | storeBeat _ k x word status => refine .of_masters ?_; rw [s.storeBeat_frame k x word status]
  | assess _ h | memory _ mem h => refine .of_masters ?_; rw [State.assess_frame]
  | isolate _ _ m _ _ => exact .cutOff s m
  | restore _ _ m _ _ => exact .readmit s m
  | recoveryMode _ m r => exact .setConf id
  | clearActive _ _ m _ _ => exact .setConf id
  | clearLimited _ _ m _ _ => exact .setConf (by simp)
  | pop _ _ _ rest _ => split <;> exact .of_masters rfl
  | serviceReset _ _ => exact fun m _ => .inr (State.limitsKept_of_none (fun k => by simp [State.serviceReset, State.slot]) m |>.2 ‹_›)
  | resetValues _ _ o onPort _ =>
    exact fun m _ => .inr (State.limitsKept_of_none (fun k => by simp [State.resetValues, State.reset, State.slot]) m |>.2 ‹_›)
  | fillMore | fillEnd | deliver | advance | finish | close | failQueued | timers | edge | mode | fill | window | timing | deferral
  | mask | enables | clearFlags | resetReleased | resetAsserted => exact .of_masters rfl

/-- R23: the admission of a master that is not ISOLATED and is under its limit. -/
theorem State.LimitsKept.allocate {r : Request} (h : s.LimitsKept) (due : s.admissible p = some r) (free : s.lowestFree = some k) :
    (s.allocate p k r).LimitsKept := by
  obtain ⟨-, live, under, -⟩ := State.ready17_facts (State.ready17_of_admissible due).1
  have four : slotLimit (s.conf p).standing ≤ 4 := by cases (s.conf p).standing <;> decide
  have standing (m : Master) : ((s.allocate p k r).conf m).standing = (s.conf m).standing := s.allocate_standing p m k
  intro m
  by_cases self : m = p
  · subst self
    have := s.allocate_held_le m k (r := r)
    exact ⟨by omega, fun isolated => absurd ((standing m).symm.trans isolated) live⟩
  · rw [s.allocate_held_ne k self (State.lowestFree_some free).1, standing m]
    exact h m

/-- R10, R12: a move but an admission adds no slot to any master. -/
theorem Move.limits (step : Move c a s b t) (h : s.LimitsKept) : t.LimitsKept := by
  obtain slots | ⟨p, k, r, -, -, due, free, rfl⟩ := step.slots
  · have fewer (m : Master) : t.held m ≤ s.held m := slots.held_le (fun _ _ becomes => becomes.1) m
    exact fun m => ⟨(fewer m).trans (h m).1, fun isolated => (step.isolates m isolated).elim
      (fun was => Nat.le_zero.mp ((fewer m).trans ((h m).2 was).le)) id⟩
  · exact h.allocate due free

/-- Settles O55: every move keeps the account of the data buffer and the slot limits. -/
theorem stepKeepsBufferAndSlotLimits : Obligations.StepKeepsBufferAndSlotLimits :=
  ⟨fun _ _ h e => step_keeps (fun _ _ _ _ _ => Move.buffer) (fun _ _ h => h) h e,
    fun _ _ h e => step_keeps (fun _ _ _ _ _ => Move.limits) (fun _ _ h => h) h e⟩

end

end Sys2Proof.Machine
end

section
/-! SUPPORT. The memory port, the memory standing and the slots under every move (R3, R113, R135, R137), with the words that each slot
keeps (R29, R116). -/

namespace Sys2Proof.Machine

open Relation (ReflTransGen)

section
variable {c : Instr} {s t u v : State} {a b : Stage} {m n p q : Master} {k : SlotIx} {x y z : Slot} {P Q : Slot → Prop}

/-! ### What is said of every live slot -/

/-- Every live slot satisfies `P`. -/
def State.Every (P : Slot → Prop) (s : State) : Prop := ∀ k x, s.slot k = some x → P x

namespace State.Every

theorem of_slots (h : s.Every P) (slots : t.slots = s.slots) (weaker : ∀ x, P x → Q x) : t.Every Q := fun k x live =>
  weaker x (h k x ((State.slot_congr slots k).symm.trans live))

theorem of_setSlot (h : s.Every P) (slots : t.slots = (s.setSlot k (some y)).slots) (written : Q y)
    (others : ∀ j x, j ≠ k → s.slot j = some x → P x → Q x) : t.Every Q := fun j z live => by
  rw [State.slot_congr slots j, s.setSlot_slot k j] at live
  split at live
  · obtain rfl := Option.some.inj live; exact written
  · rename_i other; exact others j z other live (h j z live)

theorem of_freeSlot (h : s.Every P) (slots : t.slots = (s.freeSlot k).slots) : t.Every P := fun j z live => by
  rw [State.slot_congr slots j, s.freeSlot_slot k j] at live
  split at live
  · cases live
  · exact h j z live

theorem of_mapBank (h : s.Every P) {f : Option Slot → Option Slot} (slots : t.slots = mapBank f s.slots) (free : f none = none)
    (step : ∀ x y, f (some x) = some y → P x → Q y) : t.Every Q := fun k y live => by
  rw [State.slot_congr (t := t) (s := { s with slots := mapBank f s.slots }) slots k, s.mapBank_slot f k] at live
  cases before : s.slot k with
  | none => rw [before, free] at live; cases live
  | some x => rw [before] at live; exact step x y live (h k x before)

theorem of_none (none : ∀ k, t.slot k = none) : t.Every P := fun k x live => by rw [none k] at live; cases live

end State.Every

/-! ### Orphans (R10, R86) -/

/-- R10: an orphan is ISSUED. -/
def Slot.OrphanIssued (x : Slot) : Prop := x.orphan = true → x.phase = .issued

theorem dropOne_orphanIssued (live : dropOne m (some x) = some y) (h : x.OrphanIssued) : y.OrphanIssued := by
  rw [dropOne] at live
  split at live
  · cases live
  · rename_i kept
    split at live <;> obtain rfl := Option.some.inj live
    · rename_i owned
      exact fun _ => by simpa [Slot.droppedWith, owned] using kept
    · exact h

theorem failOne_orphanIssued {fill : Word} (live : failOne fill (some x) = some y) (h : x.OrphanIssued) : y.OrphanIssued := by
  simp only [failOne, Option.map_some] at live
  split at live <;> obtain rfl := Option.some.inj live
  · rename_i queued
    intro orphan
    have := queued.symm.trans (h orphan)
    cases this
  · exact h

/-- A slot that is no orphan stays none. -/
theorem Slot.OrphanIssued.of_phase (h : x.OrphanIssued) (phase : x.phase ≠ .issued) (same : y.orphan = x.orphan) : y.OrphanIssued :=
  fun orphan => absurd (h (same ▸ orphan)) phase

theorem FillEnds.orphan {rest l : List ListEntry} (ends : FillEnds s x rest y l) : y.orphan = x.orphan := by
  cases ends with
  | filled _ =>
    unfold State.finishFilling
    split
    · rfl
    · split <;> rfl
  | malformed _ | long _ => rfl

theorem Slot.takeBeat_orphan (x : Slot) (bt : DataBeat) : (x.takeBeat bt).orphan = x.orphan := by
  unfold Slot.takeBeat
  split <;> rfl

theorem State.assess_every {h : Health} (every : s.Every P) (step : ∀ x y, failOne s.fill (some x) = some y → P x → P y) :
    (s.assess h).Every P := by
  unfold State.assess
  split
  · exact every.of_mapBank rfl rfl step
  · exact every.of_slots rfl fun _ => id

/-- A condition of every slot over what follows of an event, where dropping a master's slots keeps it. -/
theorem Follow.every (step : Follow s t) (every : s.Every P) (drop : ∀ m x y, dropOne m (some x) = some y → P x → P y) : t.Every P := by
  obtain ⟨slots, -⟩ | ⟨m, slots, -⟩ := step.slots_cases
  · exact every.of_slots slots fun _ => id
  · exact every.of_mapBank slots rfl (drop m)

theorem Move.orphans (step : Move c a s b t) (fills : s.FillsSound) (h : s.Every Slot.OrphanIssued) : t.Every Slot.OrphanIssued := by
  have same {t : State} (slots : t.slots = s.slots) : t.Every Slot.OrphanIssued := h.of_slots slots fun _ => id
  have one {t : State} {k : SlotIx} {y : Slot} (slots : t.slots = (s.setSlot k (some y)).slots) (written : y.OrphanIssued) :
      t.Every Slot.OrphanIssued := h.of_setSlot slots written fun _ _ _ _ => id
  cases step with
  | follow step => exact step.every h fun m x y => dropOne_orphanIssued
  | allocate _ p k r due free => exact one (k := k) (y := s.newSlot p r) rfl (by intro orphan; cases orphan)
  | fillMore _ p k x rest bt head live more =>
    refine one rfl fun orphan => ?_
    rw [x.takeBeat_orphan] at orphan
    exact (x.takeBeat_continues bt).2.trans (h k x live orphan)
  | fillEnd _ p k x y rest l bt head live ends =>
    refine one (k := k) (y := y) rfl ((h k x live).of_phase ?_ (ends.orphan.trans (x.takeBeat_orphan bt)))
    rw [(fills.head_filling head live).1]; simp
  | stall _ k | free _ k | dropOrphan _ k => exact h.of_freeSlot (k := k) rfl
  | deliver _ k x r live ready _ => exact one rfl ((h k x live).of_phase (by simp [ready]) rfl)
  | advance _ k x live delivering => exact one rfl ((h k x live).of_phase (by simp [delivering]) rfl)
  | grant _ w k x _ _ live => exact one (k := k) (y := { x with phase := .issued }) (by rw [State.deferAt_frame]; rfl) fun _ => rfl
  | storeBeat _ k x word status _ issued _ =>
    obtain ⟨live, phase⟩ := s.issued_some k x issued
    obtain ⟨-, e⟩ | ⟨-, e⟩ := s.storeBeat_cases k x word status <;> rw [e]
    · exact h
    · exact one rfl fun _ => phase
  | finish _ k x r corrected words _ _ own _ => exact one rfl fun orphan => absurd (own.symm.trans orphan) (by simp)
  | assess _ health _ => exact State.assess_every h fun x y => failOne_orphanIssued
  | memory _ mem health => exact State.assess_every (s := { s with mem := mem }) h fun x y => failOne_orphanIssued
  | failQueued _ _ => exact h.of_mapBank rfl rfl fun x y => failOne_orphanIssued
  | timers =>
    refine h.of_mapBank rfl rfl fun x y live keeps => ?_
    obtain rfl := Option.some.inj live
    exact keeps
  | pop _ _ _ rest _ => split <;> exact same rfl
  | isolate _ _ m _ _ => exact h.of_mapBank (f := dropOne m) rfl rfl fun x y => dropOne_orphanIssued
  | serviceReset _ _ => exact .of_none fun k => by simp [State.serviceReset, State.slot]
  | resetValues _ _ o onPort _ => exact .of_none fun k => by simp [State.resetValues, State.reset, State.slot]
  | close | edge | mode | fill | window | timing | deferral | mask | enables | clearFlags | recoveryMode | clearActive | clearLimited
  | restore | resetReleased | resetAsserted => exact same rfl

/-! ### QUEUED slots and the memory standing (R135, R137) -/

/-- R137: no slot is QUEUED while the memory is FAILED. -/
def State.NoneQueued (s : State) : Prop := s.health.standing = .failed → s.Every fun x => x.phase ≠ .queued

theorem failOne_not_queued {fill : Word} (live : failOne fill (some x) = some y) : y.phase ≠ .queued := by
  simp only [failOne, Option.map_some] at live
  split at live <;> obtain rfl := Option.some.inj live
  · simp
  · assumption

theorem State.NoneQueued.assess (h : s.NoneQueued) (health : Health) : (s.assess health).NoneQueued := by
  intro failed
  have holds : health.standing = .failed := by rw [State.assess_frame] at failed; exact failed
  by_cases before : s.health.standing = .failed
  · rw [State.assess_of_no_failure fun _ => before]
    exact (h before).of_slots rfl fun _ => id
  · rw [State.assess_of_failure holds before]
    exact fun k y live => State.Every.of_mapBank (P := fun _ => True) (s := s) (fun _ _ _ => trivial) rfl rfl
      (fun x y live _ => failOne_not_queued live) k y live

theorem Recovery.mem_health (step : Recovery s t) : t.mem = s.mem ∧ t.health = s.health := by
  cases step with
  | hand r => simp
  | flags | draws | readmit => exact ⟨rfl, rfl⟩

theorem Follow.mem_health (step : Follow s t) : t.mem = s.mem ∧ t.health = s.health := by
  cases step with
  | recovery step => exact step.mem_health
  | recoveries counts taken _ =>
    have same := Recovery.all_keep (P := fun v => v.mem = s.mem ∧ v.health = s.health)
      (fun u v step ⟨mem, health⟩ => ⟨step.mem_health.1.trans mem, step.mem_health.2.trans health⟩) taken
      (by rw [counts.1]; exact ⟨rfl, rfl⟩)
    exact same
  | link | port | promote | silence | join | score | limit | relax | cutOff | clear => exact ⟨rfl, rfl⟩

theorem dropOne_phase_ne {f : Phase} (live : dropOne m (some x) = some y) (h : x.phase ≠ f) : y.phase ≠ f := by
  rw [(dropOne_continues live).2]; exact h

/-- R4: an admission enters QUEUED for a read without an outcome, and R24 gives every read one while the memory is FAILED. -/
theorem State.entryPhase_queued {r : Request} {d : Decision} (queued : s.entryPhase r d = .queued) :
    r.kind = .read ∧ s.admitOutcome r d = none := by
  unfold State.entryPhase at queued
  split at queued
  · split at queued
    · cases queued
    · rename_i read undecided
      exact ⟨read, by simpa using undecided⟩
  · split at queued <;> cases queued

theorem State.admitOutcome_none {r : Request} {d : Decision} (undecided : s.admitOutcome r d = none) :
    (∃ w, d = .allowed w) ∧ ¬(r.kind = .read ∧ s.health.standing = .failed) := by
  unfold State.admitOutcome at undecided
  split at undecided
  · cases undecided
  · cases undecided
  · cases undecided
  · split at undecided
    · cases undecided
    · exact ⟨⟨_, rfl⟩, ‹_›⟩

theorem State.newSlot_queued {r : Request} (queued : (s.newSlot p r).phase = .queued) : s.health.standing ≠ .failed := fun failed =>
  (State.admitOutcome_none (State.entryPhase_queued queued).2).2 ⟨(State.entryPhase_queued queued).1, failed⟩

theorem FillEnds.queued {rest l : List ListEntry} (ends : FillEnds s x rest y l) (queued : y.phase = .queued) :
    s.health.standing ≠ .failed := by
  cases ends with
  | filled _ =>
    unfold State.finishFilling at queued
    split at queued
    · cases queued
    · split at queued
      · cases queued
      · assumption
  | malformed _ | long _ => cases queued

theorem Move.noneQueued (step : Move c a s b t) (h : s.NoneQueued) : t.NoneQueued := by
  have same {t : State} (slots : t.slots = s.slots) (health : t.health = s.health) : t.NoneQueued := fun failed =>
    (h (health ▸ failed)).of_slots slots fun _ => id
  have one {t : State} {k : SlotIx} {y : Slot} (slots : t.slots = (s.setSlot k (some y)).slots) (health : t.health = s.health)
      (written : s.health.standing = .failed → y.phase ≠ .queued) : t.NoneQueued := fun failed =>
    (h (health ▸ failed)).of_setSlot slots (written (health ▸ failed)) fun _ _ _ _ => id
  cases step with
  | follow step =>
    intro failed
    rw [step.mem_health.2] at failed
    exact step.every (h failed) fun m x y => dropOne_phase_ne
  | allocate _ p k r due free => exact one (k := k) (y := s.newSlot p r) rfl rfl fun failed queued => State.newSlot_queued queued failed
  | fillMore _ p k x rest bt head live more =>
    refine one rfl rfl fun failed => ?_
    rw [(x.takeBeat_continues bt).2]
    exact h failed k x live
  | fillEnd _ p k x y rest l bt head live ends => exact one (k := k) rfl rfl fun failed queued => ends.queued queued failed
  | stall _ k | free _ k | dropOrphan _ k =>
    intro failed
    have health : (s.freeSlot k).health = s.health := (congrArg State.health (s.freeSlot_frame k) :)
    exact (h (health ▸ failed)).of_freeSlot (k := k) rfl
  | deliver _ k x r live ready _ => exact one rfl rfl fun _ => by simp
  | advance _ k x live delivering => exact one rfl rfl fun _ => by simp [delivering]
  | grant _ w k x _ _ live =>
    exact one (k := k) (y := { x with phase := .issued }) (by rw [State.deferAt_frame]; rfl) (by rw [State.deferAt_frame]; rfl)
      fun _ => by simp
  | storeBeat _ k x word status _ issued _ =>
    obtain ⟨live, phase⟩ := s.issued_some k x issued
    obtain ⟨-, e⟩ | ⟨-, e⟩ := s.storeBeat_cases k x word status <;> rw [e]
    · exact h
    · exact one rfl rfl fun _ => by simp [phase]
  | finish _ k x r corrected words _ _ own _ => exact one rfl rfl fun _ => by simp
  | assess _ health _ => exact h.assess health
  | memory _ mem health => exact State.NoneQueued.assess (s := { s with mem := mem }) h health
  | failQueued _ _ =>
    exact fun _ => State.Every.of_mapBank (P := fun _ => True) (s := s) (fun _ _ _ => trivial) rfl rfl
      (fun x y live _ => failOne_not_queued live)
  | timers =>
    refine fun failed => (h failed).of_mapBank rfl rfl fun x y live keeps => ?_
    obtain rfl := Option.some.inj live
    exact keeps
  | pop _ _ _ rest _ => split <;> exact same rfl rfl
  | isolate _ _ m _ _ => exact fun failed => (h failed).of_mapBank (f := dropOne m) rfl rfl fun x y => dropOne_phase_ne
  | serviceReset _ _ => exact fun _ => .of_none fun k => by simp [State.serviceReset, State.slot]
  | resetValues _ _ o onPort _ => exact fun _ => .of_none fun k => by simp [State.resetValues, State.reset, State.slot]
  | close | edge | mode | fill | window | timing | deferral | mask | enables | clearFlags | recoveryMode | clearActive | clearLimited
  | restore | resetReleased | resetAsserted => exact same rfl rfl

/-! ### The number of ISSUED slots (R3) -/

/-- Whether a slot record is in phase ISSUED. -/
def isIssued (o : Option Slot) : Bool := o.any fun x => x.phase == .issued

theorem State.countPhase_issued (s : State) : s.countPhase .issued = allSlots.countP fun k => isIssued (s.slot k) := rfl

theorem State.countPhase_eq_zero (s : State) (f : Phase) : s.countPhase f = 0 ↔ s.Every fun x => x.phase ≠ f := by
  simp only [State.countPhase, List.countP_eq_zero, Option.any_eq_true, beq_iff_eq, not_exists, not_and]
  exact ⟨fun h k x live => h k (mem_allSlots k) x live, fun h k _ x live => h k x live⟩

/-- The number of ISSUED slots stays where no slot becomes ISSUED and none leaves the phase. -/
theorem State.countIssued_same (each : ∀ k, isIssued (t.slot k) = isIssued (s.slot k)) :
    t.countPhase .issued = s.countPhase .issued := by
  rw [State.countPhase_issued, State.countPhase_issued]
  exact List.countP_congr fun k _ => by rw [each k]

/-- Where one slot alone changes, the number of ISSUED slots changes by it. -/
theorem State.countIssued_change (others : ∀ j, j ≠ k → t.slot j = s.slot j) :
    t.countPhase .issued + (if isIssued (s.slot k) then 1 else 0) = s.countPhase .issued + (if isIssued (t.slot k) then 1 else 0) := by
  rw [State.countPhase_issued, State.countPhase_issued, countP_erase _ k, countP_erase (fun j => isIssued (s.slot j)) k]
  have rest : (allSlots.erase k).countP (fun j => isIssued (t.slot j)) = (allSlots.erase k).countP fun j => isIssued (s.slot j) :=
    List.countP_congr fun j member => by rw [others j fun self => nodup_allSlots.not_mem_erase (self ▸ member)]
  omega

theorem State.countIssued_slots (slots : t.slots = s.slots) : t.countPhase .issued = s.countPhase .issued :=
  State.countIssued_same fun k => by rw [State.slot_congr slots k]

theorem State.countIssued_setSlot (live : s.slot k = some x) (slots : t.slots = (s.setSlot k (some y)).slots)
    (same : isIssued (some y) = isIssued (some x)) : t.countPhase .issued = s.countPhase .issued :=
  State.countIssued_same fun j => by
    rw [State.slot_congr slots j, s.setSlot_slot k j]
    split
    · rename_i self; rw [self, live]; exact same
    · rfl

theorem State.countIssued_mapBank {f : Option Slot → Option Slot} (slots : t.slots = mapBank f s.slots)
    (same : ∀ o, isIssued (f o) = isIssued o) : t.countPhase .issued = s.countPhase .issued :=
  State.countIssued_same fun j => by
    rw [State.slot_congr (t := t) (s := { s with slots := mapBank f s.slots }) slots j, s.mapBank_slot f j, same]

theorem State.countIssued_freeSlot (live : s.slot k = some x) (slots : t.slots = (s.freeSlot k).slots) (phase : x.phase ≠ .issued) :
    t.countPhase .issued = s.countPhase .issued :=
  State.countIssued_same fun j => by
    rw [State.slot_congr slots j, s.freeSlot_slot k j]
    split
    · rename_i self; rw [self, live]; simp [isIssued, phase]
    · rfl

theorem dropOne_isIssued (m : Master) (o : Option Slot) : isIssued (dropOne m o) = isIssued o := by
  cases o with
  | none => rfl
  | some x =>
    rw [dropOne]
    split
    · rename_i dropped
      have : x.phase ≠ .issued := by simp [Slot.droppedWith] at dropped; exact dropped.2
      simp [isIssued, this]
    · split <;> rfl

theorem failOne_isIssued (fill : Word) (o : Option Slot) : isIssued (failOne fill o) = isIssued o := by
  cases o with
  | none => rfl
  | some x =>
    simp only [failOne, Option.map_some]
    split
    · rename_i queued; simp [isIssued, queued]
    · rfl

theorem State.countIssued_assess (s : State) (h : Health) : (s.assess h).countPhase .issued = s.countPhase .issued := by
  unfold State.assess
  split
  · exact State.countIssued_mapBank (s := s) rfl (failOne_isIssued s.fill)
  · rfl

theorem Follow.countIssued (step : Follow s t) : t.countPhase .issued = s.countPhase .issued := by
  obtain ⟨slots, -⟩ | ⟨m, slots, -⟩ := step.slots_cases
  · exact State.countIssued_slots slots
  · exact State.countIssued_mapBank slots (dropOne_isIssued m)

theorem State.newSlot_not_issued (s : State) (p : Master) (r : Request) : (s.newSlot p r).phase ≠ .issued := by
  show s.entryPhase r (s.decideRequest p r) ≠ .issued
  unfold State.entryPhase
  split <;> split <;> simp

theorem State.countIssued_allocate {r : Request} (s : State) (p : Master) (free : s.slot k = none) :
    (s.allocate p k r).countPhase .issued = s.countPhase .issued :=
  State.countIssued_same fun j => by
    rw [s.allocate_slot]
    split
    · rename_i self
      rw [self, free]
      simp [isIssued, s.newSlot_not_issued p r]
    · rfl

/-- R3: where one slot is ISSUED, no other is. -/
theorem State.issued_unique (one : s.countPhase .issued = 1) (issued : s.issued = some (k, x)) {j : SlotIx} (other : j ≠ k)
    (live : s.slot j = some y) : y.phase ≠ .issued := by
  obtain ⟨liveAt, phase⟩ := s.issued_some k x issued
  rw [State.countPhase_issued, countP_erase _ k] at one
  have here : isIssued (s.slot k) = true := by simp [isIssued, liveAt, phase]
  rw [here] at one
  have rest : (allSlots.erase k).countP (fun j => isIssued (s.slot j)) = 0 := by simpa using one
  rw [List.countP_eq_zero] at rest
  have := rest j (nodup_allSlots.mem_erase_iff.mpr ⟨other, mem_allSlots j⟩)
  simpa [isIssued, live] using this

end

end Sys2Proof.Machine
end

section
/-! SUPPORT. The agreement of slots, memory port and memory standing, and the words of the slots, over a whole command (O58). -/

namespace Sys2Proof.Machine

open Relation (ReflTransGen)

section
variable {c : Instr} {s t u v : State} {a b : Stage} {m n p q : Master} {k : SlotIx} {x y z : Slot}

/-! ### The memory port and its transaction (R3, R113) -/

/-- What PortAgrees says of the slots and the memory standing alone. -/
structure State.SlotsAgree (s : State) : Prop where
  fills   : s.FillsSound
  orphans : s.Every Slot.OrphanIssued
  queued  : s.NoneQueued
  health  : s.health.sound = true

/-- What holds at each stage of a command: where its transaction has ended, no slot is ISSUED until the port leaves BUSY. -/
def State.AtStage (s : State) : Stage → Prop
  | .fresh => s.SlotsAgree ∧ s.countPhase .issued = (if s.mem.state = .busy then 1 else 0) ∧
      (s.mem.state = .failed ↔ s.health.standing = .failed) ∧ s.mem.sound = true
  | .ending => s.SlotsAgree ∧ s.countPhase .issued = 0 ∧ s.health.standing ≠ .failed
  | .closing => s.SlotsAgree ∧ s.countPhase .issued = 0
  | .done => s.SlotsAgree ∧ s.countPhase .issued = (if s.mem.state = .busy then 1 else 0) ∧
      (s.mem.state = .failed ↔ s.health.standing = .failed) ∧ s.mem.sound = true

theorem State.AtStage.slots (h : s.AtStage a) : s.SlotsAgree := by cases a <;> exact h.1

theorem State.portAgrees_iff : s.PortAgrees ↔ s.AtStage .fresh := by
  have orphans : (∀ k : SlotIx, (s.slot k).all (fun x => !x.orphan || x.phase == .issued) = true) ↔ s.Every Slot.OrphanIssued := by
    refine forall_congr' fun k => ?_
    cases s.slot k with
    | none => simp
    | some x =>
      simp only [Option.all_some, Option.some.injEq, forall_eq']
      cases orphan : x.orphan <;> simp [Slot.OrphanIssued, orphan]
  have queued : (s.health.standing = .failed → s.countPhase .queued = 0) ↔ s.NoneQueued := by
    rw [s.countPhase_eq_zero .queued]; rfl
  constructor
  · rintro ⟨fills, issued, orphan, failed, none, mem, health⟩
    exact ⟨⟨fills, orphans.mp orphan, queued.mp none, health⟩, issued, failed, mem⟩
  · rintro ⟨⟨fills, orphan, none, health⟩, issued, failed, mem⟩
    exact ⟨fills, issued, orphans.mpr orphan, failed, queued.mpr none, mem, health⟩

/-- A move that leaves the memory port, the memory standing and the number of ISSUED slots leaves what holds at its stage. -/
theorem State.AtStage.of_same (h : s.AtStage a) (slots : t.SlotsAgree) (issued : t.countPhase .issued = s.countPhase .issued)
    (mem : t.mem = s.mem) (health : t.health = s.health) : t.AtStage a.after := by
  cases a with
  | fresh | done => exact ⟨slots, by rw [issued, mem]; exact h.2.1, by rw [mem, health]; exact h.2.2.1, by rw [mem]; exact h.2.2.2⟩
  | ending => exact ⟨slots, issued.trans h.2.1, by rw [health]; exact h.2.2⟩
  | closing => exact ⟨slots, issued.trans h.2⟩

/-- The queue of waiting commands does not matter. -/
theorem State.AtStage.withPending (h : s.AtStage .fresh) (l : List Instr) : State.AtStage { s with pending := l } .fresh :=
  ⟨⟨h.1.fills, h.1.orphans, h.1.queued, h.1.health⟩, h.2⟩

theorem State.issued_busy (h : s.AtStage .fresh) (busy : s.mem.state = .busy) : s.countPhase .issued = 1 := by
  rw [h.2.1, if_pos busy]

/-- R121, R123: the end of the one ISSUED slot, which leaves none. -/
theorem State.AtStage.ends (h : s.AtStage .fresh) (busy : s.mem.state = .busy) (issued : s.issued = some (k, x)) (slots : t.SlotsAgree)
    (others : ∀ j, j ≠ k → t.slot j = s.slot j) (ended : isIssued (t.slot k) = false) (health : t.health = s.health) :
    t.AtStage .ending := by
  obtain ⟨live, phase⟩ := s.issued_some k x issued
  have here : isIssued (s.slot k) = true := by simp [isIssued, live, phase]
  have count := State.countIssued_change others
  rw [State.issued_busy h busy, here, ended] at count
  refine ⟨slots, by simpa using count, ?_⟩
  rw [health]
  intro failed
  have := h.2.2.1.mpr failed
  rw [busy] at this
  cases this

theorem Move.slotsAgree (step : Move c a s b t) (h : s.AtStage a) (health : t.health.sound = true) : t.SlotsAgree :=
  ⟨step.fills h.slots.fills, step.orphans h.slots.fills h.slots.orphans, step.noneQueued h.slots.queued, health⟩

theorem Move.atStage (step : Move c a s b t) (h : s.AtStage a) : t.AtStage b := by
  have sound : s.health.sound = true := h.slots.health
  have same {t : State} (slots : t.SlotsAgree) (issued : t.countPhase .issued = s.countPhase .issued)
      (mem : t.mem = s.mem) (health : t.health = s.health) : t.AtStage a.after := h.of_same slots issued mem health
  have agrees := step.slotsAgree h
  cases step with
  | follow step =>
    obtain ⟨mem, health⟩ := step.mem_health
    exact same (agrees (health ▸ sound)) step.countIssued mem health
  | allocate _ p k r due free => exact same (agrees sound) (s.countIssued_allocate p (State.lowestFree_some free).1) rfl rfl
  | fillMore _ p k x rest bt head live more =>
    exact same (agrees sound) (State.countIssued_setSlot live rfl (by simp [isIssued, (x.takeBeat_continues bt).2])) rfl rfl
  | fillEnd _ p k x y rest l bt head live ends =>
    have before := (h.slots.fills.head_filling head live).1
    refine same (agrees sound) (State.countIssued_setSlot (y := y) live rfl ?_) rfl rfl
    obtain after | after := ends.continues.2 <;> simp [isIssued, before, after]
  | stall _ k x live filling =>
    rw [s.freeSlot_live k x live] at agrees ⊢
    exact same (agrees sound) (State.countIssued_freeSlot live (by rw [s.freeSlot_live k x live]; rfl) (by simp [filling])) rfl rfl
  | free _ k x live delivering =>
    have health : (s.freeSlot k).health = s.health := (congrArg State.health (s.freeSlot_frame k) :)
    exact same (agrees (health ▸ sound)) (State.countIssued_freeSlot live rfl (by simp [delivering]))
      (congrArg State.mem (s.freeSlot_frame k) :) health
  | deliver _ k x r live ready _ => exact same (agrees sound) (State.countIssued_setSlot live rfl (by simp [isIssued, ready])) rfl rfl
  | advance _ k x live delivering => exact same (agrees sound) (State.countIssued_setSlot live rfl rfl) rfl rfl
  | grant _ w k x idle candidate live =>
    obtain ⟨y, live', -, -, phase, -⟩ := State.oldest_some _ _ _ _ candidate
    obtain rfl := Option.some.inj (live.symm.trans live')
    have queued : x.phase = .queued := by simpa using phase
    have slots : State.slots { (s.issue k x).deferAt w with pointer := w } = (s.setSlot k (some { x with phase := .issued })).slots := by
      rw [State.deferAt_frame]; rfl
    have mem : State.mem { (s.issue k x).deferAt w with pointer := w } = (s.issue k x).mem := by rw [State.deferAt_frame]
    have health : State.health { (s.issue k x).deferAt w with pointer := w } = s.health := by rw [State.deferAt_frame]; rfl
    have others (j : SlotIx) (other : j ≠ k) : State.slot { (s.issue k x).deferAt w with pointer := w } j = s.slot j :=
      (State.slot_congr slots j).trans (s.setSlot_slot_ne k _ other)
    have count := State.countIssued_change others
    rw [State.slot_congr slots k, s.setSlot_slot_self, live, h.2.1, idle] at count
    refine ⟨agrees (health ▸ sound), ?_, ?_, by rw [mem]; rfl⟩
    · rw [mem]; simpa [isIssued, queued, State.issue] using count
    · rw [mem, health, ← h.2.2.1, idle]; simp [State.issue]
  | storeBeat _ k x word status _ issued _ =>
    obtain ⟨live, phase⟩ := s.issued_some k x issued
    obtain ⟨-, e⟩ | ⟨-, e⟩ := s.storeBeat_cases k x word status
    · rw [e]; exact h
    · rw [e] at agrees ⊢
      have count : State.countPhase { s.setSlot k (some { x with words := x.words ++ [word], progress := s.mem.received + 1 }) with
          mem := { s.mem with received := s.mem.received + 1, sawBad := s.mem.sawBad || badStatus status,
                              sawCorrected := s.mem.sawCorrected || status == 1#2 } } .issued = s.countPhase .issued :=
        State.countIssued_setSlot live rfl rfl
      exact ⟨agrees sound, count.trans h.2.1, h.2.2.1, h.2.2.2⟩
  | dropOrphan _ k x busy issued =>
    have frame := s.freeSlot_frame k
    have health : (s.freeSlot k).health = s.health := (congrArg State.health frame :)
    exact h.ends busy issued (agrees (health ▸ sound)) (fun j other => (s.freeSlot_slot k j).trans (if_neg other))
      (by rw [s.freeSlot_slot, if_pos rfl]; rfl) health
  | finish _ k x r corrected words busy issued _ _ =>
    exact h.ends busy issued (agrees sound) (fun j other => s.setSlot_slot_ne k _ other) (by simp [isIssued]) rfl
  | assess _ health kept =>
    have held : (s.assess health).health = health := (congrArg State.health (s.assess_frame health) :)
    exact ⟨agrees (by rw [held]; exact kept h.2.2 sound), (s.countIssued_assess health).trans h.2.1⟩
  | close _ mem kept left failed =>
    exact ⟨agrees sound, by rw [if_neg left]; exact h.2, failed, kept⟩
  | memory _ mem health kept healthy failed busy _ =>
    have frame := State.assess_frame { s with mem := mem } health
    have held : (State.assess { s with mem := mem } health).health = health := (congrArg State.health frame :)
    have port : (State.assess { s with mem := mem } health).mem = mem := (congrArg State.mem frame :)
    refine ⟨agrees (by rw [held]; exact healthy sound), ?_, ?_, ?_⟩
    · rw [State.countIssued_assess, port]
      simp only [busy]
      exact h.2.1
    · rw [port, held]; exact failed h.2.2.1
    · rw [port]; exact kept h.2.2.2
  | failQueued _ _ => exact same (agrees sound) (State.countIssued_mapBank (s := s) rfl (failOne_isIssued s.fill)) rfl rfl
  | timers =>
    refine ⟨agrees sound, ?_, h.2.2.1, ?_⟩
    · refine (State.countIssued_mapBank (s := s) (f := tickSlot) rfl fun o => ?_).trans h.2.1
      cases o <;> rfl
    · have mem := h.2.2.2
      unfold MemPort.sound at mem ⊢
      split at mem <;> simp_all
  | pop _ _ _ rest _ =>
    split at agrees <;> split <;> first | exact same (agrees sound) rfl rfl rfl | contradiction
  | isolate _ _ m _ _ => exact same (agrees sound) (State.countIssued_mapBank (s := s) (f := dropOne m) rfl (dropOne_isIssued m)) rfl rfl
  | serviceReset _ _ =>
    have none : s.serviceReset.countPhase .issued = 0 :=
      (State.countPhase_eq_zero _ _).mpr (.of_none fun k => by simp [State.serviceReset, State.slot])
    have mem : s.serviceReset.mem = s.memAfterService := rfl
    have health : s.serviceReset.health = ⟨0, .sound⟩ := rfl
    refine ⟨agrees rfl, ?_, ?_, ?_⟩
    · rw [none, mem]; unfold State.memAfterService; split <;> simp [MemPort.fresh]
    · rw [mem, health]; unfold State.memAfterService; split <;> simp [MemPort.fresh]
    · rw [mem]; unfold State.memAfterService; split <;> rfl
  | resetValues _ _ o onPort _ =>
    have none : (s.resetValues o onPort).countPhase .issued = 0 :=
      (State.countPhase_eq_zero _ _).mpr (.of_none fun k => by simp [State.resetValues, State.reset, State.slot])
    exact ⟨agrees rfl, none, by simp [State.resetValues, State.reset, MemPort.fresh], rfl⟩
  | resetAsserted => exact ⟨agrees sound, h.2⟩
  | edge | mode | fill | window | timing | deferral | mask | enables | clearFlags | recoveryMode | clearActive | clearLimited
  | restore | resetReleased => exact same (agrees sound) rfl rfl rfl

/-! ### The words of the slots (R29, R116) -/

/-- Every live slot holds the words that its phase gives, where the memory port has received `r` beats. -/
def State.HoldWords (s : State) (r : Nat) : Prop := s.Every fun x => x.wordsKept r = true

theorem State.wordsKept_iff : s.WordsKept ↔ s.HoldWords s.mem.received := by
  refine forall_congr' fun k => ?_
  cases s.slot k <;> simp

/-- The beats received matter to the words of an ISSUED slot alone. -/
theorem Slot.wordsKept_not_issued (phase : x.phase ≠ .issued) (r r' : Nat) : x.wordsKept r = x.wordsKept r' := by
  unfold Slot.wordsKept
  split <;> first | rfl | contradiction

theorem dropOne_wordsKept {r : Nat} (live : dropOne m (some x) = some y) (h : x.wordsKept r = true) : y.wordsKept r = true := by
  rw [dropOne] at live
  split at live
  · cases live
  · split at live <;> obtain rfl := Option.some.inj live <;> exact h

theorem failOne_wordsKept {fill : Word} {r : Nat} (live : failOne fill (some x) = some y) (h : x.wordsKept r = true) :
    y.wordsKept r = true := by
  simp only [failOne, Option.map_some] at live
  split at live <;> obtain rfl := Option.some.inj live
  · rename_i queued
    cases kind : x.kind with
    | read =>
      have reserved : x.reserved = x.beats.val := by simp [Slot.wordsKept, queued, kind] at h; exact h.2.2
      simp [Slot.wordsKept, reserved]
    | write => simp [Slot.wordsKept, Slot.carriesData]
  · exact h

/-- What wordsKept says of a FILLING slot. -/
theorem Slot.wordsKept_filling {r : Nat} (filling : x.phase = .filling) :
    x.wordsKept r = true ↔ x.kind = .write ∧ x.progress < x.beats.val ∧
      (if x.outcome = none then x.words.length = x.progress ∧ x.enables.length = x.progress else x.words = [] ∧ x.enables = []) := by
  unfold Slot.wordsKept
  rw [filling]
  by_cases undecided : x.outcome = none <;> simp [undecided, and_assoc]

theorem Slot.wordsKept_ready_write {r : Nat} {o : Result} (ready : x.phase = .ready) (outcome : x.outcome = some o)
    (write : x.kind = .write) : x.wordsKept r = true := by
  simp [Slot.wordsKept, ready, outcome, Slot.carriesData, write]

theorem Slot.takeBeat_wordsKept {r : Nat} {bt : DataBeat} (filling : x.phase = .filling) (h : x.wordsKept r = true)
    (more : x.progress + 1 < x.beats.val) : (x.takeBeat bt).wordsKept r = true := by
  rw [Slot.wordsKept_filling filling] at h
  obtain ⟨write, -, words⟩ := h
  unfold Slot.takeBeat
  by_cases undecided : x.outcome = none
  · rw [if_pos undecided] at words
    simp [undecided, Slot.wordsKept, filling, write, more, words]
  · rw [if_neg undecided] at words
    simp [undecided, Slot.wordsKept, filling, write, more, words]

/-- R33 to R35: the slot holds all its beats at the end of its burst, or answers without data. -/
theorem FillEnds.wordsKept {r : Nat} {bt : DataBeat} {rest l : List ListEntry} (ends : FillEnds s (x.takeBeat bt) rest y l)
    (filling : x.phase = .filling) (h : x.wordsKept r = true) : y.wordsKept r = true := by
  rw [Slot.wordsKept_filling filling] at h
  obtain ⟨write, below, words⟩ := h
  have taken : (x.takeBeat bt).kind = .write := by unfold Slot.takeBeat; split <;> exact write
  cases ends with
  | filled all =>
    unfold State.finishFilling
    split
    · rename_i o outcome
      exact Slot.wordsKept_ready_write rfl outcome taken
    · rename_i undecided
      split
      · exact Slot.wordsKept_ready_write rfl rfl taken
      · have open_ : x.outcome = none := by
          unfold Slot.takeBeat at undecided; split at undecided <;> exact undecided
        rw [if_pos open_] at words
        simp only [Slot.takeBeat, open_, Option.isNone_none, if_true] at all ⊢
        have : x.progress + 1 = x.beats.val := by omega
        simp [Slot.wordsKept, write, words, this]
  | malformed _ | long _ => exact Slot.wordsKept_ready_write rfl rfl taken

/-- R25: the decision of a well-formed request that is allowed. -/
theorem State.need_of_allowed {r : Request} {w : Option WindowIx} (allowed : s.decideRequest p r = .allowed w) :
    s.need p r = r.beats.val := by
  unfold State.decideRequest at allowed
  split at allowed
  · cases allowed
  · rename_i formed
    rw [State.need, formed]

/-- R2, R25: a request that keeps its address has a lawful beat count. -/
theorem State.beats_of_keepsAddress {r : Request} (kept : (s.decideRequest p r).keepsAddress = true) : 0 < r.beats.val := by
  by_contra zero
  have cause : s.formCause p r = some .beats := by rw [State.formCause, if_pos (.inl (by omega))]
  rw [State.decideRequest, cause] at kept
  cases kept

theorem State.newSlot_wordsKept (s : State) (p : Master) (r : Request) (received : Nat) : (s.newSlot p r).wordsKept received = true := by
  generalize decision : s.decideRequest p r = d
  have kind : (s.newSlot p r).kind = r.kind := rfl
  have outcome : (s.newSlot p r).outcome = s.admitOutcome r d := by rw [← decision]; rfl
  have phase : (s.newSlot p r).phase = s.entryPhase r d := by rw [← decision]; rfl
  have words : (s.newSlot p r).words = s.entryWords r d := by rw [← decision]; rfl
  cases of : r.kind with
  | read =>
    cases decided : s.admitOutcome r d with
    | none =>
      obtain ⟨w, rfl⟩ := (State.admitOutcome_none decided).1
      have queued : (s.newSlot p r).phase = .queued := by simp [phase, State.entryPhase, of, decided]
      have empty : (s.newSlot p r).words = [] := by simp [words, State.entryWords, of, decided]
      have reserved : (s.newSlot p r).reserved = r.beats.val := State.need_of_allowed decision
      simp only [Slot.wordsKept, queued, outcome, decided, kind, of, empty, reserved]
      simp [State.newSlot]
    | some o =>
      have ready : (s.newSlot p r).phase = .ready := by simp [phase, State.entryPhase, of, decided]
      have filled : o = .protocol ∨ (s.newSlot p r).words.length = r.beats.val := by
        rw [words, State.entryWords, of, decided]
        unfold State.admitOutcome at decided
        split at decided
        · exact .inl (Option.some.inj decided).symm
        · obtain rfl := Option.some.inj decided; simp
        · obtain rfl := Option.some.inj decided; simp
        · split at decided
          · obtain rfl := Option.some.inj decided; simp
          · cases decided
      simp only [Slot.wordsKept, ready, outcome, decided, Option.any_some, Slot.carriesData, kind, of]
      have beats : (s.newSlot p r).beats = r.beats := rfl
      obtain rfl | filled := filled
      · rfl
      · rw [filled, beats]; simp
  | write =>
    have empty : (s.newSlot p r).words = [] := by simp [words, State.entryWords, of]
    cases kept : d.keepsAddress with
    | true =>
      have filling : (s.newSlot p r).phase = .filling := by simp [phase, State.entryPhase, of, kept]
      have beats : 0 < r.beats.val := State.beats_of_keepsAddress (decision ▸ kept)
      rw [Slot.wordsKept_filling filling, kind, of, empty]
      refine ⟨rfl, beats, ?_⟩
      split <;> exact ⟨rfl, rfl⟩
    | false =>
      have ready : (s.newSlot p r).phase = .ready := by simp [phase, State.entryPhase, of, kept]
      have protocol : s.admitOutcome r d = some .protocol := by
        cases d <;> simp [Decision.keepsAddress] at kept
        rfl
      exact Slot.wordsKept_ready_write ready (outcome.trans protocol) (kind.trans of)

/-- Where no slot is ISSUED, the beats received do not matter. -/
theorem State.HoldWords.of_none_issued {r : Nat} (h : s.HoldWords r) (none : s.countPhase .issued = 0) (r' : Nat) : s.HoldWords r' :=
  fun k x live => (Slot.wordsKept_not_issued ((s.countPhase_eq_zero .issued).mp none k x live) r' r).trans (h k x live)

theorem Move.holdWords (step : Move c a s b t) (agrees : s.AtStage a) (h : s.HoldWords s.mem.received) :
    t.HoldWords t.mem.received := by
  have same {t : State} (slots : t.slots = s.slots) (mem : t.mem = s.mem) : t.HoldWords t.mem.received := by
    rw [mem]; exact h.of_slots slots fun _ => id
  have one {t : State} {k : SlotIx} {y : Slot} (slots : t.slots = (s.setSlot k (some y)).slots) (mem : t.mem = s.mem)
      (written : y.wordsKept s.mem.received = true) : t.HoldWords t.mem.received := by
    rw [mem]; exact State.Every.of_setSlot h slots written fun _ _ _ _ => id
  have freed (k : SlotIx) : (s.freeSlot k).HoldWords (s.freeSlot k).mem.received := by
    have mem : (s.freeSlot k).mem = s.mem := (congrArg State.mem (s.freeSlot_frame k) :)
    rw [mem]; exact h.of_freeSlot rfl
  have assessed (s : State) (health : Health) (h : s.HoldWords s.mem.received) :
      (s.assess health).HoldWords (s.assess health).mem.received := by
    have mem : (s.assess health).mem = s.mem := (congrArg State.mem (s.assess_frame health) :)
    rw [mem]; exact State.assess_every h fun x y => failOne_wordsKept
  cases step with
  | follow step =>
    rw [step.mem_health.1]
    exact step.every h fun m x y => dropOne_wordsKept
  | allocate _ p k r due free => exact one (k := k) (y := s.newSlot p r) rfl rfl (s.newSlot_wordsKept p r _)
  | fillMore _ p k x rest bt head live more =>
    exact one rfl rfl (Slot.takeBeat_wordsKept (agrees.slots.fills.head_filling head live).1 (h k x live) more)
  | fillEnd _ p k x y rest l bt head live ends =>
    exact one (k := k) rfl rfl (ends.wordsKept (agrees.slots.fills.head_filling head live).1 (h k x live))
  | stall _ k | free _ k | dropOrphan _ k => exact freed k
  | deliver _ k x r live ready _ =>
    have kept := h k x live
    simp only [Slot.wordsKept, ready] at kept
    exact one rfl rfl kept
  | advance _ k x live delivering =>
    have kept := h k x live
    simp only [Slot.wordsKept, delivering] at kept
    exact one rfl rfl (by simp only [Slot.wordsKept, delivering]; exact kept)
  | grant _ w k x idle candidate live =>
    obtain ⟨y, live', -, -, phase, -⟩ := State.oldest_some _ _ _ _ candidate
    obtain rfl := Option.some.inj (live.symm.trans live')
    have queued : x.phase = .queued := by simpa using phase
    have none : s.countPhase .issued = 0 := by rw [agrees.2.1, idle]; rfl
    have mem : State.mem { (s.issue k x).deferAt w with pointer := w } = (s.issue k x).mem := by rw [State.deferAt_frame]
    have zero : (s.issue k x).mem.received = 0 := rfl
    rw [mem, zero]
    have kept := h k x live
    refine State.Every.of_setSlot (State.HoldWords.of_none_issued h none 0) (k := k) (y := { x with phase := .issued })
      (by rw [State.deferAt_frame]; rfl) ?_ fun _ _ _ _ => id
    simp only [Slot.wordsKept, queued] at kept ⊢
    cases kind : x.kind <;> simp_all
  | storeBeat _ k x word status busy issued read =>
    obtain ⟨live, phase⟩ := s.issued_some k x issued
    obtain ⟨-, e⟩ | ⟨room, e⟩ := s.storeBeat_cases k x word status <;> rw [e]
    · exact h
    · refine State.Every.of_setSlot h rfl ?_ fun j y other live' kept => ?_
      · have kept := h k x live
        simp only [Slot.wordsKept, phase, read] at kept ⊢
        simp only [Bool.and_eq_true, beq_iff_eq, decide_eq_true_eq, List.length_append, List.length_singleton] at kept ⊢
        obtain ⟨undecided, ⟨⟨length, -⟩, -⟩, reserved⟩ := kept
        exact ⟨undecided, ⟨⟨by omega, trivial⟩, by omega⟩, reserved⟩
      · have notIssued := State.issued_unique (State.issued_busy agrees busy) issued other live'
        rw [Slot.wordsKept_not_issued notIssued _ s.mem.received]
        exact kept
  | finish _ k x r corrected words _ issued _ full =>
    obtain ⟨live, phase⟩ := s.issued_some k x issued
    refine one rfl rfl ?_
    have beats := full (h k x live)
    cases kind : x.kind with
    | read => simp [Slot.wordsKept, beats kind]
    | write => exact Slot.wordsKept_ready_write (o := r) rfl rfl rfl
  | assess _ health _ => exact assessed s health h
  | close _ mem _ _ _ => exact State.HoldWords.of_none_issued h agrees.2 _
  | memory _ mem health _ _ _ busy received =>
    refine assessed { s with mem := mem } health ?_
    by_cases state : mem.state = .busy
    · show State.HoldWords s mem.received
      rw [received state]; exact h
    · have none : s.countPhase .issued = 0 := by rw [agrees.2.1, if_neg fun atMemory => state (busy.mpr atMemory)]
      exact State.HoldWords.of_none_issued h none _
  | failQueued _ _ => exact h.of_mapBank rfl rfl fun x y => failOne_wordsKept
  | timers =>
    refine h.of_mapBank (f := tickSlot) rfl rfl fun x y live kept => ?_
    obtain rfl := Option.some.inj live
    exact kept
  | pop _ _ _ rest _ => split <;> exact same rfl rfl
  | isolate _ _ m _ _ => exact h.of_mapBank (f := dropOne m) rfl rfl fun x y => dropOne_wordsKept
  | serviceReset _ _ => exact .of_none fun k => by simp [State.serviceReset, State.slot]
  | resetValues _ _ o onPort _ => exact .of_none fun k => by simp [State.resetValues, State.reset, State.slot]
  | edge | mode | fill | window | timing | deferral | mask | enables | clearFlags | recoveryMode | clearActive | clearLimited
  | restore | resetReleased | resetAsserted => exact same rfl rfl

/-! ### Over a step -/

/-- What each stage of a command has, every step keeps. -/
theorem step_keeps_stages {I : Stage → State → Prop} (move : ∀ c a u b v, Move c a u b v → I a u → I b v)
    (pending : ∀ (s : State) l, I .fresh s → I .fresh { s with pending := l }) (done : ∀ s, I .done s → I .fresh s)
    (start : I .fresh s) (e : step s = .next t) : I .fresh t := by
  have result : I .fresh t ∨ I .done t := by
    obtain rfl | ⟨c, rest, course⟩ := step_cases e
    · exact (Course.refl (c := .tick).follows s.sclkFall_follows).keeps I start (move _)
    · exact course.keeps I (pending s rest start) (move c)
  exact result.elim id (done t)

/-- Settles O58: every move keeps the write-data lists, takes the agreement of port and slots from its stage to the next, and with it
the words of the slots. -/
theorem stepKeepsThePortAgreement : Obligations.StepKeepsThePortAgreement := by
  refine ⟨fun s t h e => step_keeps (fun _ _ _ _ _ => Move.fills) (fun _ _ h => h) h e, fun s t h e => ?_, fun s t h words e => ?_⟩
  · rw [State.portAgrees_iff] at h ⊢
    exact step_keeps_stages (I := fun a u => u.AtStage a) (fun _ _ _ _ _ => Move.atStage) (fun _ l h => h.withPending l) (fun _ h => h) h e
  · rw [State.portAgrees_iff] at h
    rw [State.wordsKept_iff] at words ⊢
    exact (step_keeps_stages (I := fun a u => u.AtStage a ∧ u.HoldWords u.mem.received)
      (fun _ _ _ _ _ step ⟨agrees, words⟩ => ⟨step.atStage agrees, step.holdWords agrees words⟩) (fun _ l h => ⟨h.1.withPending l, h.2⟩) (fun _ h => h)
      ⟨h, words⟩ e).2

end

end Sys2Proof.Machine
end

section
/-! SUPPORT. The commands of the service link: the effect of each, its argument bytes, and the answer it gives (Chapters 10 to 13). -/

namespace Sys2Proof.Machine

section
variable {s t u : State} {c : Instr} {b : Byte} {f : List Byte} {m : Master} {result : Answer × State}

/-! ### The effect of every command of the link (R173) -/

/-- The effect of a command of the link; a command that no frame carries has none, and leaves the state with the answer OK. -/
def commandEffect : Instr → Effect
  | .readStatus => fun s => (okData s.statusData, s)
  | .readSettings => fun s => (okData s.settingsData, s)
  | .readAlerts => fun s => (okData s.alertData, s)
  | .readMaster b => ranged (readMasterArg b) fun m s => (okData (s.masterData m), s)
  | .readWindow i => ranged (readIndexArg i) fun i s => (okData (s.window i).data, s)
  | .readSlot i => ranged (readIndexArg i) fun k s => (okData (s.slotData k), s)
  | .peekFault => peekEffect
  | .popFault => popEffect
  | .setMode b => ranged (readModeArg b) setModeEffect
  | .setFill w => fun s => (plain .ok, { s with fill := w })
  | .setTiming k a b => ranged (readTimingArgs k a b) fun t s =>
      (plain .ok, { s with time := { divider := t.1, count := 0, masterTimeout := t.2.1, memoryTimeout := t.2.2 } })
  | .setDeferral d => ranged (readDeferralArg d) fun n s => (plain .ok, { s with deferral := n })
  | .setRecordMask n => ranged (readMaskArg n) fun m s => (plain .ok, { s with queue := { s.queue with mask := m } })
  | .setAlertEnables e => ranged (readAlertArg e) fun a s => (plain .ok, s.withEnables a)
  | .clearAlerts e => ranged (readAlertArg e) fun a s => (plain .ok, s.withFlags (s.alerts.flags.without a))
  | .writeWindow i l base last r => ranged (readWindowArgs i l base last r) fun iw s => (plain .ok, s.setWindow iw.1 iw.2)
  | .setRecovery b r => ranged (readMasterArg b) fun m => ranged (readRecoveryArg r) fun mode s =>
      (plain .ok, s.setConf m { s.conf m with recovery := mode, count := 0 })
  | .clearScore b => ranged (readMasterArg b) clearScoreEffect
  | .isolate b => ranged (readMasterArg b) isolateEffect
  | .restore b => ranged (readMasterArg b) restoreEffect
  | .holdMemory => holdEffect
  | .releaseMemory => releaseEffect
  | .restoreMemory => restoreMemoryEffect
  | .resetPart => fun s => (plain .ok, s.serviceReset)
  | _ => fun s => (plain .ok, s)

/-- R173: a command that a frame carries is the command event of its effect. -/
theorem exec_of_commandBytes {body : List Byte} (spelled : commandBytes c = some body) (s : State) :
    exec c s = .next (s.command body (commandEffect c)) := by
  cases c <;> cases spelled <;> rfl

/-- R173: a command whose frame the link takes is answered with what its effect gives. -/
theorem exec_of_takesFrame (takes : s.takesFrame c f) (acts : commandEffect c s = result) :
    exec c s = .next (result.2.answered f result.1) := by
  obtain ⟨body, spelled, -⟩ := Option.map_eq_some_iff.mp takes.1
  rw [exec_of_commandBytes spelled, State.command_of_takesFrame spelled takes acts]

theorem exec_of_ranged {α : Type} {arg : Option α} {e : α → Effect} {a : α} (takes : s.takesFrame c f)
    (effect : commandEffect c = ranged arg e) (read : arg = some a) (acts : e a s = result) :
    exec c s = .next (result.2.answered f result.1) :=
  exec_of_takesFrame takes (by rw [effect, read, ranged_some, acts])

/-- R173 line 7: an argument out of range. -/
theorem exec_of_range {α : Type} {arg : Option α} {e : α → Effect} (takes : s.takesFrame c f) (effect : commandEffect c = ranged arg e)
    (read : arg = none) : exec c s = .next (s.answered f ⟨.range, []⟩) :=
  exec_of_takesFrame takes (result := (plain .range, s)) (by rw [effect, read, ranged_none])

/-! ### Refusals (R173) -/

/-- An effect that is answered with anything but OK carries no data and leaves the state. -/
def Effect.RefusesCleanly (e : Effect) : Prop := ∀ s : State, (e s).1.status ≠ .ok → (e s).1.data = [] ∧ (e s).2 = s

theorem Effect.RefusesCleanly.of_ok {e : Effect} (ok : ∀ s, (e s).1.status = .ok) : e.RefusesCleanly := fun s refused =>
  absurd (ok s) refused

theorem Effect.RefusesCleanly.ranged {α : Type} {arg : Option α} {e : α → Effect} (each : ∀ a, Effect.RefusesCleanly (e a)) :
    Effect.RefusesCleanly (Machine.ranged arg e) := by
  cases arg with
  | none => exact fun s _ => ⟨rfl, rfl⟩
  | some a => exact each a

theorem peekEffect_nil (empty : s.queue.records = []) : peekEffect s = (plain .empty, s) := by simp [peekEffect, empty]

theorem peekEffect_cons {r : FaultRecord} {rest : List FaultRecord} (records : s.queue.records = r :: rest) :
    peekEffect s = (okData r.bytes, s) := by simp [peekEffect, records]

theorem popEffect_nil (empty : s.queue.records = []) : popEffect s = (plain .empty, s) := by simp [popEffect, empty]

theorem popEffect_cons {r : FaultRecord} {rest : List FaultRecord} (records : s.queue.records = r :: rest) :
    popEffect s = (okData r.bytes,
      if rest = [] then State.lowerQueue { s with queue := { s.queue with records := rest } }
      else { s with queue := { s.queue with records := rest } }) := by simp [popEffect, records]

theorem peekEffect_refusesCleanly : peekEffect.RefusesCleanly := fun s refused => by
  cases records : s.queue.records with
  | nil => rw [peekEffect_nil records]; exact ⟨rfl, rfl⟩
  | cons r rest => rw [peekEffect_cons records] at refused; exact absurd rfl refused

theorem popEffect_refusesCleanly : popEffect.RefusesCleanly := fun s refused => by
  cases records : s.queue.records with
  | nil => rw [popEffect_nil records]; exact ⟨rfl, rfl⟩
  | cons r rest => rw [popEffect_cons records] at refused; exact absurd rfl refused

theorem isolateEffect_isolated (isolated : (s.conf m).standing = .isolated) : isolateEffect m s = (plain .state, s) := by
  simp [isolateEffect, isolated]

theorem isolateEffect_live (live : (s.conf m).standing ≠ .isolated) :
    isolateEffect m s = (plain .ok, (s.isolateMaster m .service).joinWaiters) := by
  cases standing : (s.conf m).standing with
  | active | limited => simp [isolateEffect, standing]
  | isolated => exact absurd standing live

theorem restoreEffect_live (live : (s.conf m).standing ≠ .isolated) : restoreEffect m s = (plain .state, s) := by
  cases standing : (s.conf m).standing with
  | active | limited => simp [restoreEffect, standing]
  | isolated => exact absurd standing live

theorem clearScoreEffect_refusesCleanly (m : Master) : (clearScoreEffect m).RefusesCleanly := fun s refused => by
  cases standing : (s.conf m).standing with
  | active => rw [clearScoreEffect_active standing] at refused; exact absurd rfl refused
  | limited => rw [clearScoreEffect_limited standing] at refused; exact absurd rfl refused
  | isolated => rw [clearScoreEffect_isolated standing]; exact ⟨rfl, rfl⟩

theorem isolateEffect_refusesCleanly (m : Master) : (isolateEffect m).RefusesCleanly := fun s refused => by
  by_cases isolated : (s.conf m).standing = .isolated
  · rw [isolateEffect_isolated isolated]; exact ⟨rfl, rfl⟩
  · rw [isolateEffect_live isolated] at refused; exact absurd rfl refused

theorem restoreEffect_refusesCleanly (m : Master) : (restoreEffect m).RefusesCleanly := fun s refused => by
  by_cases isolated : (s.conf m).standing = .isolated
  · rw [restoreEffect_isolated isolated] at refused; exact absurd rfl refused
  · rw [restoreEffect_live isolated]; exact ⟨rfl, rfl⟩

/-- R142: HOLD MEMORY by the state of the memory port. -/
theorem holdEffect_eq (s : State) :
    holdEffect s = (plain (if s.mem.state = .failed then .state else .ok),
      match s.mem.state with
      | .idle => State.raiseHeld { s with mem := { s.mem with state := .held } }
      | .busy => { s with mem := { s.mem with holdPending := true } }
      | .draining => { s with mem := { s.mem with holdPending := true } }
      | .held => s
      | .failed => s) := by
  unfold holdEffect
  cases s.mem.state <;> rfl

/-- R143: RELEASE MEMORY by the state of the memory port. -/
theorem releaseEffect_eq (s : State) :
    releaseEffect s = (plain (if s.mem.state = .failed then .state else .ok),
      match s.mem.state with
      | .idle => s
      | .busy => { s with mem := { s.mem with holdPending := false } }
      | .draining => { s with mem := { s.mem with holdPending := false } }
      | .held => { s with mem := { s.mem with state := .idle } }
      | .failed => s) := by
  unfold releaseEffect
  cases s.mem.state <;> rfl

theorem holdEffect_refusesCleanly : holdEffect.RefusesCleanly := fun s refused => by
  rw [holdEffect_eq] at refused ⊢
  by_cases failed : s.mem.state = .failed
  · rw [failed]; exact ⟨rfl, rfl⟩
  · rw [if_neg failed] at refused; exact absurd rfl refused

theorem releaseEffect_refusesCleanly : releaseEffect.RefusesCleanly := fun s refused => by
  rw [releaseEffect_eq] at refused ⊢
  by_cases failed : s.mem.state = .failed
  · rw [failed]; exact ⟨rfl, rfl⟩
  · rw [if_neg failed] at refused; exact absurd rfl refused

theorem commandEffect_refusesCleanly (c : Instr) : (commandEffect c).RefusesCleanly := by
  have ok {e : Effect} (h : ∀ s, (e s).1.status = .ok) : e.RefusesCleanly := .of_ok h
  cases c with
  | readMaster | readWindow | readSlot | setTiming | setDeferral | setRecordMask | setAlertEnables | clearAlerts | writeWindow
  | setMode => exact .ranged fun _ => ok fun _ => rfl
  | setRecovery => exact .ranged fun _ => .ranged fun _ => ok fun _ => rfl
  | peekFault => exact peekEffect_refusesCleanly
  | popFault => exact popEffect_refusesCleanly
  | clearScore => exact .ranged clearScoreEffect_refusesCleanly
  | isolate => exact .ranged isolateEffect_refusesCleanly
  | restore => exact .ranged restoreEffect_refusesCleanly
  | holdMemory => exact holdEffect_refusesCleanly
  | releaseMemory => exact releaseEffect_refusesCleanly
  | _ => exact ok fun _ => rfl

/-- Settles O19: an effect that is not answered OK has left the state. -/
theorem refusedCommandsChangeNothing : Obligations.RefusedCommandsChangeNothing := by
  intro s t c f a takes e retained refused
  rw [exec_of_takesFrame takes rfl] at e
  obtain rfl := Host.Outcome.next.inj e
  obtain rfl : (commandEffect c s).1 = a := Option.some.inj retained
  obtain ⟨data, state⟩ := commandEffect_refusesCleanly c s refused
  exact ⟨data, by rw [state]⟩

/-! ### Argument bytes (Table 13-2) -/

theorem readIndexArg_eq_none : readIndexArg b = none ↔ 16 ≤ b.toNat := by simp [readIndexArg]

theorem readIndexArg_eq_some {i : Fin 16} : readIndexArg b = some i ↔ b.toNat = i.val := by
  have bound := i.isLt
  simp only [readIndexArg, Option.dite_none_right_eq_some, Option.some.injEq, Fin.ext_iff, exists_prop]
  omega

theorem readModeArg_code (mode : Mode) : readModeArg mode.code = some mode := by cases mode <;> rfl

theorem readModeArg_eq_none (no0 : b ≠ 0#8) (no1 : b ≠ 1#8) : readModeArg b = none := by simp [readModeArg, no0, no1]

theorem readMaskArg_eq (n : BitVec 16) : readMaskArg n = if n.toNat < 2048 then some (BitVec.ofNat 11 n.toNat) else none := by
  have high : n.extractLsb' 11 5 = 0#5 ↔ n.toNat < 2048 := by
    rw [← BitVec.toNat_inj, BitVec.extractLsb'_toNat, Nat.shiftRight_eq_div_pow]
    have := n.isLt
    show n.toNat / 2 ^ 11 % 2 ^ 5 = 0 ↔ _
    omega
  have low : n.extractLsb' 0 11 = BitVec.ofNat 11 n.toNat := BitVec.eq_of_toNat_eq (by simp)
  simp only [readMaskArg, high, low]

theorem readDeferralArg_eq_some (most : b.toNat ≤ 15) : readDeferralArg b = some b.toNat := if_pos most

theorem readDeferralArg_eq_none (above : 15 < b.toNat) : readDeferralArg b = none := if_neg (by omega)

theorem byte_pos {a : Byte} : 1 ≤ a.toNat ↔ a ≠ 0#8 := by
  rw [Ne, ← BitVec.toNat_inj]
  show 1 ≤ a.toNat ↔ ¬a.toNat = 0
  omega

theorem readTimingArgs_eq_some {k a d : Byte} (divider : k.toNat ≤ 8) (master : a ≠ 0#8) (memory : d ≠ 0#8) :
    readTimingArgs k a d = some (k.toNat, a.toNat, d.toNat) := if_pos ⟨divider, byte_pos.mpr master, byte_pos.mpr memory⟩

theorem readTimingArgs_eq_none {k a d : Byte} (out : 8 < k.toNat ∨ a = 0#8 ∨ d = 0#8) : readTimingArgs k a d = none := by
  refine if_neg fun ⟨divider, master, memory⟩ => ?_
  obtain above | zero | zero := out
  · omega
  · exact byte_pos.mp master zero
  · exact byte_pos.mp memory zero

/-- Bit `i` of a byte, by division. -/
theorem byte_getLsbD (b : Byte) (i : Nat) : b.getLsbD i = decide (b.toNat / 2 ^ i % 2 = 1) := Nat.testBit_eq_decide_div_mod_eq

theorem readAlertArg_eq_none : readAlertArg b = none ↔ 64 ≤ b.toNat := by
  have high : (b.getLsbD 6 || b.getLsbD 7) = true ↔ 64 ≤ b.toNat := by
    have := b.isLt
    simp only [byte_getLsbD, Bool.or_eq_true, decide_eq_true_eq]
    omega
  rw [← high, readAlertArg]
  split <;> simp_all

/-- The flags, or the enables, that a byte below 64 names. -/
def alertsNamed (b : Byte) : AlertSet :=
  { queue := b.getLsbD 0, standing := b.getLsbD 1, recovery := b.getLsbD 2, memory := b.getLsbD 3, loss := b.getLsbD 4,
    held := b.getLsbD 5 }

theorem readAlertArg_eq_some (below : b.toNat < 64) : readAlertArg b = some (alertsNamed b) := by
  cases read : readAlertArg b with
  | none => have := readAlertArg_eq_none.mp read; omega
  | some a =>
    unfold readAlertArg at read
    split at read
    · cases read
    · exact read.symm

/-- The bits of the flags byte (Table 13-2). -/
theorem AlertSet.byte_getLsbD (a : AlertSet) (n : Nat) :
    a.byte.getLsbD n = ([a.queue, a.standing, a.recovery, a.memory, a.loss, a.held][n]?).getD false := by
  have bit (v : Bool) (i : Nat) : (boolByte v).getLsbD i = (v && decide (i = 0)) := by
    cases v <;> simp [boolByte, BitVec.getLsbD_one]
  simp only [AlertSet.byte, BitVec.getLsbD_or, BitVec.getLsbD_shiftLeft, bit]
  match n with
  | 0 | 1 | 2 | 3 | 4 | 5 => simp
  | n + 6 => simp

theorem alertsNamed_byte (below : b.toNat < 64) : (alertsNamed b).byte = b := by
  refine BitVec.eq_of_getLsbD_eq fun i bound => ?_
  rw [AlertSet.byte_getLsbD]
  match i with
  | 0 | 1 | 2 | 3 | 4 | 5 => rfl
  | 6 =>
    rw [Machine.byte_getLsbD]
    exact (decide_eq_false (by omega)).symm
  | 7 =>
    rw [Machine.byte_getLsbD]
    exact (decide_eq_false (by omega)).symm

/-! ### The reading commands (R57, R77, R160, R168, R176 to R178) -/

/-- The places of the wait list: a port's number, and FFh beyond the list. -/
theorem waitListBytes_eq {l : List Master} {place : Nat → Byte} (held : ∀ i p, l[i]? = some p → place i = BitVec.ofNat 8 p.val)
    (beyond : ∀ i, l[i]? = none → place i = 0xFF#8) : [0, 1, 2, 3].map place = waitListBytes l :=
  List.map_congr_left fun i _ => by
    cases at_ : l[i]? with
    | none => exact beyond i at_
    | some p => exact held i p at_

theorem optByte_eq {α : Type} (code : α → Byte) (o : Option α) : optByte code o = (o.map code).getD 0xFF#8 := by cases o <;> rfl

theorem kindByte_eq (k : Kind) (a : Option Addr) : kindByte k a = if a.isSome then kindCode k else kindCode k ||| 0x80#8 := by
  cases a <;> rfl

theorem optAddrBytes_eq (a : Option Addr) : optAddrBytes a = addrBytes (a.getD 0#24) := by cases a <;> rfl

theorem State.slotTimer_eq (s : State) (x : Slot) :
    s.slotTimer x = halfBytes (((if x.phase = .issued then s.mem.timer else x.timer).map (BitVec.ofNat 16)).getD 0xFFFF#16) := by
  unfold State.slotTimer
  split <;> simp_all [numHalf, absentHalf]
  rfl

theorem State.masterData_eq (s : State) (m : Master) :
    s.masterData m = [(s.conf m).standing.code] ++ halfBytes (BitVec.ofNat 16 (s.conf m).score) ++ [(s.conf m).recovery.code] ++
      halfBytes (if (s.conf m).recovery = .manual then 0#16 else BitVec.ofNat 16 (s.conf m).count) ++
      [BitVec.ofNat 8 (s.conf m).deferral, boolByte (s.conf m).waitListed, BitVec.ofNat 8 (s.held m)] := by
  have count : numHalf (s.conf m).reportedCount =
      halfBytes (if (s.conf m).recovery = .manual then 0#16 else BitVec.ofNat 16 (s.conf m).count) := by
    unfold Confinement.reportedCount numHalf
    split <;> rfl
  rw [State.masterData, count]
  rfl

theorem State.liveSlotData_eq (s : State) (x : Slot) :
    s.liveSlotData x =
      [x.phase.code, BitVec.ofNat 8 x.master.val, BitVec.ofNat 8 x.tag.val,
        if x.address.isSome then kindCode x.kind else kindCode x.kind ||| 0x80#8] ++
      addrBytes (x.address.getD 0#24) ++
      [BitVec.ofNat 8 x.beats.val, BitVec.ofNat 8 x.reserved,
        (x.window.map fun w => BitVec.ofNat 8 w.val).getD 0xFF#8, (x.outcome.map Result.code).getD 0xFF#8,
        (x.cause.map ProtocolCause.code).getD 0xFF#8, boolByte x.corrected, boolByte x.orphan, x.admission] ++
      halfBytes (((if x.phase = .issued then s.mem.timer else x.timer).map (BitVec.ofNat 16)).getD 0xFFFF#16) ++
      [BitVec.ofNat 8 x.progress] := by
  unfold State.liveSlotData
  rw [State.slotTimer_eq, optAddrBytes_eq, kindByte_eq, optByte_eq, optByte_eq, optByte_eq]
  rfl

/-- Settles O11: the layouts of Table 13-3, spelled out. -/
theorem readingCommandsAnswer : Obligations.ReadingCommandsAnswer := by
  refine ⟨fun s f => ⟨fun takes => ?_, fun takes => exec_of_takesFrame takes rfl, fun takes => exec_of_takesFrame takes rfl⟩,
    fun s b f => ⟨fun takes => ⟨fun out => ?_, fun m named => ?_⟩, fun takes => ⟨fun out => ?_, fun i named => ?_⟩,
      fun takes => ⟨fun out => ?_, fun k named => ⟨fun free => ?_, fun x live => ?_⟩⟩⟩⟩
  · rw [waitListBytes_eq (l := s.waitList)]
    · exact exec_of_takesFrame takes rfl
    · intro i p held; simp only [held]
    · intro i beyond; simp only [beyond]
  · exact exec_of_range takes rfl (readMasterArg_eq_none.mpr out)
  · rw [← State.masterData_eq]
    exact exec_of_ranged takes rfl (readMasterArg_eq_some.mpr named) rfl
  · exact exec_of_range takes rfl (readIndexArg_eq_none.mpr out)
  · exact exec_of_ranged takes rfl (readIndexArg_eq_some.mpr named) rfl
  · exact exec_of_range takes rfl (readIndexArg_eq_none.mpr out)
  · refine exec_of_ranged takes rfl (readIndexArg_eq_some.mpr named) (result := (okData _, s)) ?_
    rw [State.slotData, free]
    rfl
  · rw [← State.liveSlotData_eq]
    refine exec_of_ranged takes rfl (readIndexArg_eq_some.mpr named) (result := (okData _, s)) ?_
    rw [State.slotData, live]

/-- Settles O12: both commands by the oldest record. -/
theorem peekAndPopFault : Obligations.PeekAndPopFault := by
  intro s f
  refine ⟨fun takes => ⟨fun empty => ?_, fun r rest records => ?_⟩,
    fun takes => ⟨fun empty => ?_, fun r rest records => ⟨fun more => ?_, fun last => ?_⟩⟩⟩
  · exact exec_of_takesFrame takes (peekEffect_nil empty)
  · exact exec_of_takesFrame takes (peekEffect_cons records)
  · exact exec_of_takesFrame takes (popEffect_nil empty)
  · have popped := popEffect_cons records
    rw [if_neg more] at popped
    exact exec_of_takesFrame takes popped
  · have popped := popEffect_cons records
    rw [if_pos last, last] at popped
    exact exec_of_takesFrame takes popped

/-! ### The setting commands (R50, R53, R55, R110, R150, R159) -/

/-- Settles O13: each setting by its argument bytes. -/
theorem settingAndModeCommandsAct : Obligations.SettingAndModeCommandsAct := by
  refine ⟨fun s f => ⟨fun w takes => exec_of_takesFrame takes rfl, fun d takes => ⟨fun most => ?_, fun above => ?_⟩,
    fun k a b takes => ⟨fun divider master memory => ?_, fun out => ?_⟩, fun n takes => ⟨fun below => ?_, fun above => ?_⟩⟩,
    fun s b m f takes => ⟨fun coded other => ?_, fun coded same => ?_, fun no0 no1 => ?_⟩⟩
  · exact exec_of_ranged takes rfl (readDeferralArg_eq_some most) rfl
  · exact exec_of_range takes rfl (readDeferralArg_eq_none above)
  · exact exec_of_ranged takes rfl (readTimingArgs_eq_some divider master memory) rfl
  · exact exec_of_range takes rfl (readTimingArgs_eq_none out)
  · exact exec_of_ranged takes rfl ((readMaskArg_eq n).trans (if_pos below)) rfl
  · exact exec_of_range takes rfl ((readMaskArg_eq n).trans (if_neg (by omega)))
  · subst coded
    exact exec_of_ranged takes rfl (readModeArg_code m) (result := (plain .ok, State.hand { s with mode := m } (.mode m)))
      (by simp [setModeEffect, other.symm])
  · subst coded same
    exact exec_of_ranged takes rfl (readModeArg_code s.mode) (result := (plain .ok, s)) (by simp [setModeEffect])
  · exact exec_of_range takes rfl (readModeArg_eq_none no0 no1)

/-- Settles O15: the flags and enables that the byte names. -/
theorem alertCommandsAct : Obligations.AlertCommandsAct := by
  refine ⟨fun f e => by simp [alertLevel, or_assoc], fun s => ⟨rfl, rfl, rfl, rfl⟩, fun s b f =>
    ⟨fun takes => ⟨fun out => ?_, fun below => ?_⟩, fun takes => ⟨fun out => ?_, fun below => ?_⟩⟩⟩
  · exact exec_of_range takes rfl (readAlertArg_eq_none.mpr out)
  · exact ⟨s.withFlags (s.alerts.flags.without (alertsNamed b)), exec_of_ranged takes rfl (readAlertArg_eq_some below) rfl, rfl, rfl,
      rfl, rfl⟩
  · exact exec_of_range takes rfl (readAlertArg_eq_none.mpr out)
  · exact ⟨s.withEnables (alertsNamed b), exec_of_ranged takes rfl (readAlertArg_eq_some below) rfl, alertsNamed_byte below, rfl,
      rfl, rfl⟩

/-! ### ISOLATE and RESTORE (R84, R94), and the memory commands (R140, R142, R143) -/

/-- R92: the recovery event, read off the state. -/
theorem State.recover_conf_port (s : State) (m : Master) (cause : StandingCause) :
    (s.recover m cause).conf m = { s.conf m with score := 0, standing := .active, count := 0, deferral := 0 } ∧
      s.sameRecordsBut (s.recover m cause) m ∧ (s.recover m cause).port m = { s.port m with cut := false } ∧
      s.samePortsBut (s.recover m cause) m := by
  have conf (n : Master) : (s.recover m cause).conf n = (s.readmit m).conf n := by rw [State.recover_eq]; simp
  have port (q : Master) : (s.recover m cause).port q = (s.readmit m).port q := by rw [State.recover_eq]; simp
  exact ⟨by rw [conf]; simp, fun n other => by rw [conf, s.readmit_conf_ne other], by rw [port]; simp,
    fun q other => by rw [port, s.readmit_port_ne other]⟩

/-- Settles O17: the two commands by the standing of the master they name, and the recovery event. -/
theorem isolateAndRestoreCommandsAct : Obligations.IsolateAndRestoreCommandsAct := by
  refine ⟨fun s b f => ⟨fun takes => ⟨fun out => ?_, fun m named => ⟨fun live => ?_, fun isolated => ?_⟩⟩,
    fun takes => ⟨fun out => ?_, fun m named => ⟨fun isolated => ?_, fun live => ?_⟩⟩⟩, fun s m cause => ?_⟩
  · exact exec_of_range takes rfl (readMasterArg_eq_none.mpr out)
  · exact exec_of_ranged takes rfl (readMasterArg_eq_some.mpr named)
      (result := (plain .ok, (s.isolateMaster m .service).joinWaiters)) (isolateEffect_live live)
  · exact exec_of_ranged takes rfl (readMasterArg_eq_some.mpr named) (isolateEffect_isolated isolated)
  · exact exec_of_range takes rfl (readMasterArg_eq_none.mpr out)
  · exact exec_of_ranged takes rfl (readMasterArg_eq_some.mpr named)
      (result := (plain .ok, (s.recover m .service).joinWaiters)) (restoreEffect_isolated isolated)
  · exact exec_of_ranged takes rfl (readMasterArg_eq_some.mpr named) (restoreEffect_live live)
  · obtain ⟨conf, confs, port, ports⟩ := s.recover_conf_port m cause
    refine ⟨conf, confs, port, ports, ?_⟩
    have masters : (s.recover m cause).masters = (s.readmit m).masters := by rw [State.recover_eq]; simp
    have allPorts : (s.recover m cause).ports = (s.readmit m).ports := by rw [State.recover_eq]; simp
    show s.recover m cause = _
    rw [masters, allPorts, State.recover_eq]
    rfl

/-- Settles O18: the three commands by the state of the memory port. -/
theorem memoryCommandsAct : Obligations.MemoryCommandsAct := by
  refine ⟨fun s f takes => ?hold, fun s f takes => ?release, fun s f takes => ?restore⟩
  case hold =>
    have acts := exec_of_takesFrame takes (holdEffect_eq s)
    exact ⟨fun idle => by rw [acts, idle]; rfl, fun atMemory => by obtain state | state := atMemory <;> rw [acts, state] <;> rfl,
      fun held => by rw [acts, held]; rfl, fun failed => by rw [acts, failed]; rfl⟩
  case release =>
    have acts := exec_of_takesFrame takes (releaseEffect_eq s)
    exact ⟨fun idle => by rw [acts, idle]; rfl, fun atMemory => by obtain state | state := atMemory <;> rw [acts, state] <;> rfl,
      fun held => by rw [acts, held]; rfl, fun failed => by rw [acts, failed]; rfl⟩
  case restore =>
    refine ⟨{ s with mem := s.mem.restored, health := ⟨0, .sound⟩ }, rfl, rfl, fun busy => ?_, fun left => ?_, ?_⟩
    · simp [MemPort.restored, busy]
    · cases state : s.mem.state <;> simp_all [MemPort.restored, MemPort.fresh]
    · exact exec_of_takesFrame takes rfl

/-- Settles O49: the values of a service reset. -/
theorem serviceResetKeepsTheSettings : Obligations.ServiceResetKeepsTheSettings := by
  intro s f takes
  refine ⟨s.serviceReset, exec_of_takesFrame takes rfl, rfl, fun p => ?_, fun m => ?_, fun atMemory => ?_, fun notBusy notDraining => ?_⟩
  · exact s.mapBank_port Port.afterService p
  · show s.serviceReset.conf m = (s.conf m).afterService
    simp [State.serviceReset, State.conf]
  · obtain state | state := atMemory <;> simp [State.serviceReset, State.memAfterService, state]
  · cases state : s.mem.state <;> simp_all [State.serviceReset, State.memAfterService]

end

end Sys2Proof.Machine
end

section
/-! SUPPORT. Frames and layouts: the bytes of every command frame and their reading (Tables 13-1 and 13-2), the judgement of a frame
(R173), the rights byte and the fault records (Tables 13-2 and 13-4). -/

namespace Sys2Proof.Machine

section
variable {s : State} {c : Instr} {body bytes f : List Byte} {tail : List Bool}

/-! ### Sums and check bytes (R172) -/

theorem byteSum_append (a d : List Byte) : byteSum (a ++ d) = byteSum a + byteSum d := by
  induction a with
  | nil => simp [byteSum]
  | cons x a ih =>
    show x + byteSum (a ++ d) = x + byteSum a + byteSum d
    rw [ih, BitVec.add_assoc]

theorem byteSum_withCheck (body : List Byte) : byteSum (withCheck body) = 0#8 := by
  rw [withCheck, byteSum_append]
  show byteSum body + (-byteSum body + 0#8) = 0#8
  rw [BitVec.add_zero, BitVec.add_right_neg]

/-- R172: bytes that sum to 0 end with the check byte of those before. -/
theorem withCheck_dropLast (some' : bytes ≠ []) (sum : byteSum bytes = 0#8) : withCheck bytes.dropLast = bytes := by
  have parts := List.dropLast_append_getLast some'
  have last : bytes.getLast some' = checkByte bytes.dropLast := by
    rw [← parts, byteSum_append] at sum
    have zero : byteSum bytes.dropLast + bytes.getLast some' = 0#8 := by
      have single : byteSum [bytes.getLast some'] = bytes.getLast some' := BitVec.add_zero _
      rwa [single] at sum
    rw [checkByte, ← BitVec.add_left_inj (byteSum bytes.dropLast), BitVec.add_comm, zero, BitVec.add_left_neg]
  rw [withCheck, ← last, parts]

/-! ### Fields of several bytes (R189) -/

/-- The low byte of a field, and the bytes above it. -/
theorem extract_append {n : Nat} (x : BitVec n) (y : Byte) :
    (x ++ y).extractLsb' 0 8 = y ∧ ∀ i, (x ++ y).extractLsb' (i + 8) 8 = x.extractLsb' i 8 :=
  ⟨BitVec.extractLsb'_append_eq_right, fun i => by
    rw [BitVec.extractLsb'_append_eq_of_le (Nat.le_add_left 8 i), Nat.add_sub_cancel]⟩

theorem halfBytes_append (a b : Byte) : halfBytes (a ++ b) = [a, b] := by
  have high : (a ++ b).extractLsb' 8 8 = a := ((extract_append a b).2 0).trans BitVec.extractLsb'_eq_self
  exact congrArg₂ (fun x y => [x, y]) high (extract_append a b).1

theorem addrBytes_append (a b d : Byte) : addrBytes (a ++ b ++ d) = [a, b, d] := by
  have high : (a ++ b ++ d).extractLsb' 16 8 = a :=
    ((extract_append (a ++ b) d).2 8).trans (((extract_append a b).2 0).trans BitVec.extractLsb'_eq_self)
  have middle : (a ++ b ++ d).extractLsb' 8 8 = b := ((extract_append (a ++ b) d).2 0).trans (extract_append a b).1
  have low : (a ++ b ++ d).extractLsb' 0 8 = d := (extract_append (a ++ b) d).1
  show [(a ++ b ++ d).extractLsb' 16 8, (a ++ b ++ d).extractLsb' 8 8, (a ++ b ++ d).extractLsb' 0 8] = _
  rw [high, middle, low]

theorem wordBytes_append (a b d e : Byte) : wordBytes (a ++ b ++ d ++ e) = [a, b, d, e] := by
  have above (i : Nat) : (a ++ b ++ d ++ e).extractLsb' (i + 8) 8 = (a ++ b ++ d).extractLsb' i 8 := (extract_append (a ++ b ++ d) e).2 i
  have upper : addrBytes (a ++ b ++ d) = [a, b, d] := addrBytes_append a b d
  have low : (a ++ b ++ d ++ e).extractLsb' 0 8 = e := (extract_append (a ++ b ++ d) e).1
  show [(a ++ b ++ d ++ e).extractLsb' (16 + 8) 8, (a ++ b ++ d ++ e).extractLsb' (8 + 8) 8,
    (a ++ b ++ d ++ e).extractLsb' (0 + 8) 8, (a ++ b ++ d ++ e).extractLsb' 0 8] = _
  rw [above, above, above, low]
  exact congrArg (· ++ [e]) upper

/-- Adjacent parts of a field make up the part that they cover. -/
theorem extract_join {n : Nat} (x : BitVec n) (i high low : Nat) :
    x.extractLsb' (i + low) high ++ x.extractLsb' i low = x.extractLsb' i (high + low) :=
  BitVec.extractLsb'_append_extractLsb'_eq_extractLsb' rfl

theorem halfBytes_join (h : BitVec 16) : h.extractLsb' 8 8 ++ h.extractLsb' 0 8 = h :=
  (extract_join h 0 8 8).trans BitVec.extractLsb'_eq_self

theorem addrBytes_join (a : Addr) : a.extractLsb' 16 8 ++ a.extractLsb' 8 8 ++ a.extractLsb' 0 8 = a :=
  (congrArg (· ++ a.extractLsb' 0 8) (extract_join a 8 8 8)).trans ((extract_join a 0 16 8).trans BitVec.extractLsb'_eq_self)

theorem wordBytes_join (w : Word) : w.extractLsb' 24 8 ++ w.extractLsb' 16 8 ++ w.extractLsb' 8 8 ++ w.extractLsb' 0 8 = w :=
  (congrArg (· ++ w.extractLsb' 8 8 ++ w.extractLsb' 0 8) (extract_join w 16 8 8)).trans
    ((congrArg (· ++ w.extractLsb' 0 8) (extract_join w 8 16 8)).trans ((extract_join w 0 24 8).trans BitVec.extractLsb'_eq_self))

/-! ### Encoding and reading (Tables 13-1 and 13-2) -/

theorem commandOf_commandBytes (spelled : commandBytes c = some body) : commandOf body = some c := by
  cases c <;> cases spelled
  case setFill w => exact congrArg (fun w => some (Instr.setFill w)) (wordBytes_join w)
  case setRecordMask n => exact congrArg (fun n => some (Instr.setRecordMask n)) (halfBytes_join n)
  case writeWindow i l base last r =>
    exact congrArg₂ (fun base last => some (Instr.writeWindow i l base last r)) (addrBytes_join base) (addrBytes_join last)
  all_goals rfl

/-- R172: the frame of a command has the length of its code, at most eleven bytes, and its code is not 00h. -/
theorem frameLength_commandBytes (spelled : commandBytes c = some body) :
    frameLength (body.headD 0#8) = some (body.length + 1) ∧ body.length ≤ 10 ∧ isCommandFrame body = true := by
  cases c <;> cases spelled <;> exact ⟨rfl, Nat.le_of_ble_eq_true rfl, rfl⟩

/-- Each code is read with the number of argument bytes that its frame carries. -/
theorem commandBytes_commandOf (read : commandOf body = some c) : commandBytes c = some body := by
  cases body with
  | nil => cases read
  | cons code args =>
    unfold commandOf at read
    dsimp only at read
    iterate 24
      replace read := ite_eq_iff.mp read
      obtain ⟨rfl, read⟩ | ⟨-, read⟩ := read
      · split at read <;> cases read
        simp only [commandBytes, wordBytes_append, halfBytes_append, addrBytes_append, List.cons_append, List.nil_append]
    cases read

/-! ### The judgement of a frame (R173, lines 1 to 6) -/

theorem judgeFrame_frame (refused : tail ≠ [] ∨ 11 < bytes.length) : judgeFrame bytes tail = .frame := by
  unfold judgeFrame
  obtain unfinished | long := refused
  · rw [if_pos unfinished]
  · split
    · rfl
    · rfl

theorem judgeFrame_unknown (length : bytes.length ≤ 11) (code : frameLength (bytes.headD 0#8) = none) :
    judgeFrame bytes [] = if byteSum bytes = 0#8 then .unknown else .frame := by
  simp only [judgeFrame, ne_eq, not_true_eq_false, if_false, Nat.not_lt.mpr length, code]
  split <;> simp_all

theorem judgeFrame_known {n : Nat} (length : bytes.length ≤ 11) (code : frameLength (bytes.headD 0#8) = some n) :
    judgeFrame bytes [] = if bytes.length = n ∧ byteSum bytes = 0#8 then .accepted else .frame := by
  simp only [judgeFrame, ne_eq, not_true_eq_false, if_false, Nat.not_lt.mpr length, code]
  split <;> rename_i wrong
  · rw [if_neg fun right => wrong right.1]
  · split <;> rename_i sum
    · rw [if_neg fun right => sum right.2]
    · rw [if_pos ⟨by simpa using wrong, by simpa using sum⟩]

theorem judgeFrame_accepted (accepted : judgeFrame bytes tail = .accepted) :
    tail = [] ∧ bytes.length ≤ 11 ∧ byteSum bytes = 0#8 ∧ frameLength (bytes.headD 0#8) = some bytes.length := by
  by_cases refused : tail ≠ [] ∨ 11 < bytes.length
  · rw [judgeFrame_frame refused] at accepted; cases accepted
  · obtain ⟨whole, length⟩ : tail = [] ∧ bytes.length ≤ 11 := by simpa using refused
    subst whole
    cases code : frameLength (bytes.headD 0#8) with
    | none =>
      rw [judgeFrame_unknown length code] at accepted
      split at accepted <;> cases accepted
    | some n =>
      rw [judgeFrame_known length code] at accepted
      split at accepted
      · rename_i right
        exact ⟨rfl, length, right.2, by rw [right.1]⟩
      · cases accepted

/-- R172: a frame of a command is accepted. -/
theorem judgeFrame_encoded (spelled : commandBytes c = some body) : judgeFrame (withCheck body) [] = .accepted := by
  obtain ⟨code, length, -⟩ := frameLength_commandBytes spelled
  have full : (withCheck body).length = body.length + 1 := by simp [withCheck]
  have head : (withCheck body).headD 0#8 = body.headD 0#8 := by
    cases body with
    | nil => simp [frameLength] at code
    | cons _ _ => rfl
  rw [judgeFrame_known (by omega) (head ▸ code), if_pos ⟨full, byteSum_withCheck body⟩]

theorem encodeFrame_eq_some : encodeFrame c = some f ↔ ∃ body, commandBytes c = some body ∧ withCheck body = f :=
  Option.map_eq_some_iff

/-- Settles O3: the frame is accepted, and its bytes before the check byte are read as they were written. -/
theorem framesDecodeToTheirCommand : Obligations.FramesDecodeToTheirCommand := by
  intro c f encoded
  obtain ⟨body, spelled, rfl⟩ := encodeFrame_eq_some.mp encoded
  rw [decodeFrame, judgeFrame_encoded spelled]
  show commandOf (withCheck body).dropLast = some c
  rw [withCheck, List.dropLast_concat]
  exact commandOf_commandBytes spelled

/-- Settles O4: an accepted frame ends with the check byte of its code and arguments, which spell the command read. -/
theorem decodedFramesAreTheEncodedOnes : Obligations.DecodedFramesAreTheEncodedOnes := by
  intro bytes tail c decoded
  unfold decodeFrame at decoded
  split at decoded
  · rename_i accepted
    obtain ⟨whole, -, sum, length⟩ := judgeFrame_accepted accepted
    have some' : bytes ≠ [] := by rintro rfl; simp [frameLength] at length
    exact ⟨whole, encodeFrame_eq_some.mpr ⟨_, commandBytes_commandOf decoded, withCheck_dropLast some' sum⟩⟩
  · cases decoded
  · cases decoded

/-- Settles O5: the frames are read byte by byte. -/
theorem writtenOutFramesDecode : Obligations.WrittenOutFramesDecode := by
  unfold Obligations.WrittenOutFramesDecode
  decide

/-! ### Refused frames (R173) -/

theorem lookup_cons_ite (k code : Byte) (n : Nat) (l : List (Byte × Nat)) :
    ((k, n) :: l).lookup code = if code = k then some n else l.lookup code := by
  rw [List.lookup_cons]
  by_cases same : code = k
  · simp [same]
  · have unequal : (code == k) = false := by simp [same]
    rw [unequal, if_neg same]

theorem execUnknownCodeFrame_refused (command : isCommandFrame bytes = true) (short : tail.length < 8) (accepts : s.accepts bytes tail = true)
    {a : AnswerStatus} {v : FrameVerdict} (verdict : judgeFrame bytes tail = v) (status : v = .frame ∧ a = .frame ∨ v = .unknown ∧ a = .unknown) :
    exec (.unknownCodeFrame bytes tail) s = .next (s.answered bytes ⟨a, []⟩) := by
  show execUnknownCodeFrame bytes tail s = _
  unfold execUnknownCodeFrame
  rw [if_pos (by simp [command, short, accepts]), verdict]
  obtain ⟨rfl, rfl⟩ | ⟨rfl, rfl⟩ := status <;> rfl

/-- Settles O9: the first line of R173 that applies. -/
theorem refusedFramesAreAnswered : Obligations.RefusedFramesAreAnswered := by
  refine ⟨fun code => ?_, fun s bytes tail command short accepts => ⟨fun refused => ?_, fun whole length code => ?_,
    fun n whole length code wrong => ?_⟩⟩
  · simp only [lookup_cons_ite, List.lookup_nil]
    rfl
  · exact execUnknownCodeFrame_refused command short accepts (judgeFrame_frame refused) (.inl ⟨rfl, rfl⟩)
  · subst whole
    refine execUnknownCodeFrame_refused command short accepts (judgeFrame_unknown length code) ?_
    by_cases sum : byteSum bytes = 0#8 <;> simp [sum]
  · subst whole
    refine execUnknownCodeFrame_refused command short accepts (judgeFrame_known length code) (.inl ⟨if_neg fun right => ?_, rfl⟩)
    exact wrong.elim (fun h => h right.1) fun h => h right.2

/-! ### The rights byte (Table 13-2) -/

theorem Right.code_high (r : Right) (i : Nat) (high : 2 ≤ i) : r.code.getLsbD i = false := by
  have small : r.code.toNat < 2 ^ i := by
    have : 2 ^ 2 ≤ 2 ^ i := Nat.pow_le_pow_right (by decide) high
    cases r <;> exact Nat.lt_of_lt_of_le (by decide) this
  exact Nat.testBit_lt_two_pow small

/-- The two bits of each master in the rights byte. -/
theorem rightsByte_extract (v : Vector Right 4) (m : Master) :
    (rightsByte v).extractLsb' (2 * m.val) 2 = (v[m]).code.extractLsb' 0 2 := by
  refine BitVec.eq_of_getLsbD_eq fun i bound => ?_
  simp only [BitVec.getLsbD_extractLsb', bound, decide_true, Bool.true_and, rightsByte, BitVec.getLsbD_or, BitVec.getLsbD_shiftLeft]
  match m, i, bound with
  | 0, 0, _ | 0, 1, _ | 1, 0, _ | 1, 1, _ | 2, 0, _ | 2, 1, _ | 3, 0, _ | 3, 1, _ =>
    simp [- BitVec.getLsbD_eq_getElem, Right.code_high]

/-! ### Fault records and answers (Tables 13-3 to 13-5, R174, R190) -/

theorem standingsByte_standing (old new : Standing) :
    standingsByte old.code new.code = BitVec.ofNat 8 (16 * old.code.toNat + new.code.toNat) := by
  cases old <;> cases new <;> rfl

theorem standingsByte_memory (old new : MemStanding) :
    standingsByte old.code new.code = BitVec.ofNat 8 (16 * old.code.toNat + new.code.toNat) := by
  cases old <;> cases new <;> rfl

theorem Answer.bytes_length (status : AnswerStatus) (d : List Byte) : (Answer.mk status d).bytes.length = d.length + 2 := by
  simp [Answer.bytes, withCheck]

theorem FaultRecord.bytes_length (r : FaultRecord) : r.bytes.length = 16 := by
  obtain ⟨q, lost, b⟩ := r
  cases b with
  | protocol _ _ _ _ a | memoryTimeout _ _ _ a | memoryFault _ _ _ a | memoryCorrected _ _ a => cases a <;> rfl
  | _ => rfl

theorem State.slotData_length (s : State) (k : SlotIx) : (s.slotData k).length = 18 := by
  unfold State.slotData
  split
  · rfl
  · rename_i x _
    rw [State.liveSlotData, State.slotTimer_eq, optAddrBytes_eq]
    rfl

/-- Settles O10: sums by the check byte, lengths and codes by counting, the bits of the two packed bytes, and the record of each kind
byte by byte. -/
theorem framesAndAnswersCheck : Obligations.FramesAndAnswersCheck := by
  refine ⟨fun a => byteSum_withCheck _, fun c f encoded => ?_, fun s m i k r => ⟨rfl, rfl, rfl, rfl, rfl, ?_, ?_⟩,
    fun status d => ⟨_, rfl⟩, by decide, rightsByte_extract, AlertSet.byte_getLsbD, fun q lost n m t k a w orphan => ?_⟩
  · obtain ⟨body, spelled, rfl⟩ := encodeFrame_eq_some.mp encoded
    obtain ⟨-, -, sum, length⟩ := judgeFrame_accepted (judgeFrame_encoded spelled)
    obtain ⟨-, -, command⟩ := frameLength_commandBytes spelled
    refine ⟨sum, length, ?_⟩
    cases body with
    | nil => cases command
    | cons _ _ => exact command
  · rw [Answer.bytes_length, FaultRecord.bytes_length]
  · rw [Answer.bytes_length, State.slotData_length]
  · refine ⟨rfl, rfl, fun _ o => by cases o <;> rfl, fun _ => rfl, fun old new c dropped => ?_, fun _ => rfl,
      fun o => by cases o <;> cases orphan <;> rfl, fun o _ => by cases o <;> cases orphan <;> rfl,
      fun o => by cases o <;> cases orphan <;> rfl, fun old new c => ?_, fun _ => rfl⟩
    · rw [← standingsByte_standing]
      cases dropped <;> rfl
    · rw [← standingsByte_memory]
      rfl

/-! ### WRITE WINDOW (R55) -/

theorem readRight_eq_some {b : BitVec 2} {r : Right} : readRight b = some r ↔ r.code.extractLsb' 0 2 = b := by
  revert b
  cases r <;> decide

theorem readRight_eq_none {b : BitVec 2} : readRight b = none ↔ b.toNat = 3 := by
  revert b
  decide

theorem readLiveArg_eq_none {b : Byte} : readLiveArg b = none ↔ 1 < b.toNat := by
  revert b
  decide

theorem readLiveArg_eq_some {b : Byte} {live : Bool} : readLiveArg b = some live ↔ b.toNat ≤ 1 ∧ live = decide (b = 1#8) := by
  revert b
  cases live <;> decide

theorem Right.code_toNat_eq (r : Right) : r.code.toNat = (r.code.extractLsb' 0 2).toNat := by cases r <;> rfl

theorem boolByte_live {b : Byte} (known : b.toNat ≤ 1) : boolByte (decide (b = 1#8)) = b := by
  revert b
  decide

/-- A byte is known by the two bits of each master. -/
theorem byte_ext_pairs {a b : Byte} (same : ∀ m : Master, a.extractLsb' (2 * m.val) 2 = b.extractLsb' (2 * m.val) 2) : a = b := by
  refine BitVec.eq_of_getLsbD_eq fun i bound => ?_
  have pair := congrArg (fun v : BitVec 2 => v.getLsbD (i % 2)) (same ⟨i / 2, by omega⟩)
  simp only [BitVec.getLsbD_extractLsb', Nat.mod_lt i (by decide : 0 < 2), decide_true, Bool.true_and, Nat.div_add_mod] at pair
  exact pair

theorem readRightsArg_pairs {b : Byte} {v : Vector Right 4} (read : readRightsArg b = some v) (m : Master) :
    readRight (b.extractLsb' (2 * m.val) 2) = some v[m] := by
  unfold readRightsArg at read
  split at read
  · rename_i first second third fourth
    obtain rfl := Option.some.inj read
    match m with
    | 0 => exact first
    | 1 => exact second
    | 2 => exact third
    | 3 => exact fourth
  · cases read

theorem readRightsArg_eq_none {b : Byte} : readRightsArg b = none ↔ ∃ m : Master, (b.extractLsb' (2 * m.val) 2).toNat = 3 := by
  constructor
  · intro none'
    by_contra all
    have right (m : Master) : ∃ r, readRight (b.extractLsb' (2 * m.val) 2) = some r :=
      Option.ne_none_iff_exists'.mp fun h => all ⟨m, readRight_eq_none.mp h⟩
    obtain ⟨⟨_, first⟩, ⟨_, second⟩, ⟨_, third⟩, ⟨_, fourth⟩⟩ := And.intro (right 0) (And.intro (right 1) (And.intro (right 2) (right 3)))
    unfold readRightsArg at none'
    split at none'
    · cases none'
    · rename_i some'
      exact some' _ _ _ _ first second third fourth
  · rintro ⟨m, wrong⟩
    cases read : readRightsArg b with
    | none => rfl
    | some v =>
      have := readRightsArg_pairs read m
      rw [readRight_eq_none.mpr wrong] at this
      cases this

theorem readWindowArgs_eq_none {index live rights : Byte} {base last : Addr} :
    readWindowArgs index live base last rights = none ↔
      readIndexArg index = none ∨ readLiveArg live = none ∨ last.toNat < base.toNat ∨ readRightsArg rights = none := by
  unfold readWindowArgs
  cases readIndexArg index <;> cases readLiveArg live <;> cases readRightsArg rights <;> simp

theorem readWindowArgs_eq_some {index live rights : Byte} {base last : Addr} {i : WindowIx} {w : Window}
    (read : readWindowArgs index live base last rights = some (i, w)) :
    readIndexArg index = some i ∧ readLiveArg live = some w.live ∧ readRightsArg rights = some w.rights ∧ w.base = base ∧
      w.last = last := by
  unfold readWindowArgs at read
  split at read
  · rename_i indexed lived righted
    split at read
    · cases read
      exact ⟨indexed, lived, righted, rfl, rfl⟩
    · cases read
  · cases read

/-- Settles O14: the entry is read from the argument bytes, and its data spells them again. -/
theorem writeWindowReplacesTheEntry : Obligations.WriteWindowReplacesTheEntry := by
  intro s index live rights base last f takes inRange
  have refused : readWindowArgs index live base last rights = none ↔ ¬inRange := by
    rw [readWindowArgs_eq_none, readIndexArg_eq_none, readLiveArg_eq_none, readRightsArg_eq_none]
    simp only [inRange, not_and_or, not_lt, not_le, not_forall, not_not]
  refine ⟨fun valid => ?_, fun wrong => exec_of_range takes rfl (refused.mpr wrong)⟩
  obtain ⟨⟨i, w⟩, read⟩ := Option.ne_none_iff_exists'.mp fun h => refused.mp h valid
  obtain ⟨indexed, lived, righted, rfl, rfl⟩ := readWindowArgs_eq_some read
  obtain ⟨known, live'⟩ := readLiveArg_eq_some.mp lived
  rw [readIndexArg_eq_some] at indexed
  refine ⟨s.setWindow i w, exec_of_ranged takes rfl read rfl, rfl, fun j other => ?_, fun j same => ?_⟩
  · exact s.setWindow_window_ne i w fun same => other (by rw [same, indexed])
  · obtain rfl : j = i := Fin.ext (by omega)
    rw [s.setWindow_window_self]
    have pair (m : Master) := readRight_eq_some.mp (readRightsArg_pairs righted m)
    refine ⟨live', rfl, rfl, fun m => by rw [Right.code_toNat_eq, pair], ?_⟩
    have bits : rightsByte w.rights = rights := byte_ext_pairs fun m => (rightsByte_extract _ m).trans (pair m)
    show [boolByte w.live] ++ _ ++ _ ++ [rightsByte w.rights] = _
    rw [bits, live', boolByte_live known]

end

end Sys2Proof.Machine
end

section
/-! SUPPORT. The service link bit by bit: frames shifted in, SDOUT, and the events at the link's own lines (R170 to R175, R181, R182). -/

namespace Sys2Proof.Machine

section
variable {s : State} {c : Instr} {f bs : List Byte} {tail : List Bool} {n : Nat}

/-! ### Bits of a run of bytes (R170) -/

@[simp] theorem byteBits_length (b : Byte) : (byteBits b).length = 8 := rfl

@[simp] theorem bytesBits_length (bs : List Byte) : (bytesBits bs).length = 8 * bs.length := by
  induction bs with
  | nil => rfl
  | cons b bs ih =>
    show (byteBits b ++ bytesBits bs).length = _
    rw [List.length_append, ih, byteBits_length, List.length_cons]
    omega

theorem bytesBits_cons (b : Byte) (bs : List Byte) : bytesBits (b :: bs) = byteBits b ++ bytesBits bs := rfl

/-- The bits behind whole bytes are those of the bytes behind. -/
theorem drop_bytesBits (bs : List Byte) (tail : List Bool) (k : Nat) (bound : k ≤ bs.length) :
    (bytesBits bs ++ tail).drop (8 * k) = bytesBits (bs.drop k) ++ tail := by
  induction bs generalizing k with
  | nil =>
    obtain rfl : k = 0 := by simpa using bound
    rfl
  | cons b bs ih =>
    cases k with
    | zero => rfl
    | succ k =>
      have split : 8 * (k + 1) = (byteBits b).length + 8 * k := by rw [byteBits_length]; omega
      rw [bytesBits_cons, List.append_assoc, split, List.drop_length_add_append, ih k (by simpa using bound), List.drop_succ_cons]

/-- The bits of one byte of the run. -/
theorem take_drop_bytesBits (bs : List Byte) (tail : List Bool) (k : Nat) (bound : k < bs.length) :
    ((bytesBits bs ++ tail).drop (8 * k)).take 8 = byteBits bs[k] := by
  rw [drop_bytesBits bs tail k (Nat.le_of_lt bound), List.drop_eq_getElem_cons bound, bytesBits_cons, List.append_assoc]
  exact List.take_left' (byteBits_length _)

theorem bitsByte_byteBits (b : Byte) : bitsByte (byteBits b) = b := by
  revert b
  decide

theorem byteBits_getElem? (b : Byte) (j : Nat) (bound : j < 8) : (byteBits b)[j]? = some (b.getLsbD (7 - j)) := by
  match j, bound with
  | 0, _ | 1, _ | 2, _ | 3, _ | 4, _ | 5, _ | 6, _ | 7, _ => rfl

/-! ### The link while a frame is shifted in (R170, R171, R175) -/

/-- The state with its link replaced. -/
def State.withLink (s : State) (l : Link) : State := { s with link := l }

/-- The frame in progress after `n` bits of the bytes `bs` and the bits `tail`. -/
def frameAfter (bs : List Byte) (tail : List Bool) (n : Nat) : Frame :=
  { bytes := (bs.take (n / 8)).take 11, count := n / 8, bits := ((bytesBits bs ++ tail).drop (8 * (n / 8))).take (n % 8) }

/-- The bit that SDOUT shows beside bit `n` of a frame of the bytes `bs`, where `r` has been retained before it. -/
def shownBit (r : Option Answer) (bs : List Byte) (n : Nat) : Bool := (givenByte r bs (n / 8)).getLsbD (7 - n % 8)

/-- The retained answer after `n` bits: a command frame discards it with its first byte. -/
def retainedAfter (r : Option Answer) (bs : List Byte) (n : Nat) : Option Answer :=
  if 8 ≤ n ∧ isCommandFrame bs = true then none else r

/-- The link after `n` bits of a frame, from a link `l` that had SSEL deasserted. -/
def linkAfter (l : Link) (bs : List Byte) (tail : List Bool) (n : Nat) : Link :=
  { ssel := true, sclk := decide (0 < n) || l.sclk, frame := some (frameAfter bs tail n), retained := retainedAfter l.retained bs n
    origin := l.origin, sdout := some (shownBit l.retained bs (n - 1))
    given := (List.range (n / 8)).map (givenByte l.retained bs) }

theorem frameAfter_bits_length (bound : n ≤ (bytesBits bs ++ tail).length) :
    (frameAfter bs tail n).bits.length = n % 8 := by
  rw [List.length_append, bytesBits_length] at bound
  simp only [frameAfter, List.length_take, List.length_drop, List.length_append, bytesBits_length]
  omega

/-- A frame gives its first byte FFh, a command frame every byte. -/
theorem givenByte_frameAfter (r : Option Answer) (bound : n / 8 ≤ bs.length) :
    givenByte (retainedAfter r bs n) (frameAfter bs tail n).bytes (n / 8) = givenByte r bs (n / 8) := by
  cases count : n / 8 with
  | zero => rfl
  | succ k =>
    cases bs with
    | nil => simp [count] at bound
    | cons b bs =>
      have first : (frameAfter (b :: bs) tail n).bytes = b :: (bs.take k).take 10 := by simp [frameAfter, count]
      rw [first]
      by_cases answer : b = 0#8
      · subst answer
        rw [retainedAfter, if_neg (by simp [isCommandFrame])]
        rfl
      · simp [givenByte, answer]

theorem sdoutBit_frameAfter (r : Option Answer) (short : tail.length < 8) (bound : n ≤ (bytesBits bs ++ tail).length) :
    sdoutBit (retainedAfter r bs n) (frameAfter bs tail n) = shownBit r bs n := by
  have whole : n / 8 ≤ bs.length := by
    rw [List.length_append, bytesBits_length] at bound
    omega
  rw [sdoutBit, frameAfter_bits_length bound, shownBit, ← givenByte_frameAfter r whole]
  rfl

/-- R170: the completed bytes of a frame after one more of them. -/
theorem complete_frameAfter (byte : n / 8 < bs.length) (last : n % 8 = 7) :
    (frameAfter bs tail n).complete bs[n / 8] = frameAfter bs tail (n + 1) := by
  have quotient : (n + 1) / 8 = n / 8 + 1 := by omega
  have remainder : (n + 1) % 8 = 0 := by omega
  have kept : (if n / 8 < 11 then (bs.take (n / 8)).take 11 ++ [bs[n / 8]] else (bs.take (n / 8)).take 11) =
      (bs.take (n / 8 + 1)).take 11 := by
    split
    · rename_i room
      rw [List.take_take, List.take_take, Nat.min_eq_right (Nat.le_of_lt room), Nat.min_eq_right room, List.take_concat_get' _ _ byte]
    · rename_i full
      rw [List.take_take, List.take_take, Nat.min_eq_left (by omega), Nat.min_eq_left (by omega)]
  refine (congrArg (fun bytes => Frame.mk bytes (n / 8 + 1) []) kept).trans ?_
  simp only [frameAfter, quotient, remainder, List.take_zero]

/-- R171: the first byte of a command frame discards the retained answer. -/
theorem retainedAfter_succ (r : Option Answer) (byte : n / 8 < bs.length) (last : n % 8 = 7) :
    (if n / 8 = 0 ∧ bs[n / 8] ≠ 0#8 then none else retainedAfter r bs n) = retainedAfter r bs (n + 1) := by
  have completed : 8 ≤ n + 1 := by omega
  simp only [retainedAfter, completed, true_and]
  by_cases first : n / 8 = 0
  · have none' : ¬8 ≤ n := by omega
    have head : isCommandFrame bs = true ↔ bs[n / 8] ≠ 0#8 := by
      cases bs with
      | nil => simp at byte
      | cons b bs => simp [first, isCommandFrame]
    simp only [first, head, none', true_and, false_and, if_false]
  · have more : 8 ≤ n := by omega
    simp only [first, more, true_and, false_and, if_false]

/-- The eighth bit of a byte completes it; another is kept beside the completed bytes. -/
theorem shift_linkAfter (l : Link) (short : tail.length < 8) (bound : n < (bytesBits bs ++ tail).length) :
    Link.shift { linkAfter l bs tail n with sclk := true, sdout := some (shownBit l.retained bs n) } (frameAfter bs tail n)
      (bytesBits bs ++ tail)[n] = linkAfter l bs tail (n + 1) := by
  have length := frameAfter_bits_length (Nat.le_of_lt bound)
  have total := bound
  rw [List.length_append, bytesBits_length] at total
  have bits : (frameAfter bs tail n).bits ++ [(bytesBits bs ++ tail)[n]] =
      ((bytesBits bs ++ tail).drop (8 * (n / 8))).take (n % 8 + 1) := by
    have there : n % 8 < ((bytesBits bs ++ tail).drop (8 * (n / 8))).length := by simp; omega
    rw [← List.take_concat_get' _ _ there]
    simp only [frameAfter, List.getElem_drop, Nat.div_add_mod]
  unfold Link.shift
  rw [length, bits]
  by_cases within : n % 8 < 7
  · have quotient : (n + 1) / 8 = n / 8 := by omega
    have remainder : (n + 1) % 8 = n % 8 + 1 := by omega
    have eight : 8 ≤ n + 1 ↔ 8 ≤ n := by omega
    rw [if_pos within]
    simp only [linkAfter, frameAfter, retainedAfter, quotient, remainder, eight, Nat.add_sub_cancel, Nat.zero_lt_succ, decide_true, Bool.true_or]
  · have quotient : (n + 1) / 8 = n / 8 + 1 := by omega
    have remainder : (n + 1) % 8 = 0 := by omega
    have last : n % 8 + 1 = 8 := by omega
    have byte : n / 8 < bs.length := by omega
    rw [if_neg within, last, take_drop_bytesBits bs tail _ byte, bitsByte_byteBits]
    have given : givenByte (retainedAfter l.retained bs n) (frameAfter bs tail n).bytes (n / 8) = givenByte l.retained bs (n / 8) :=
      givenByte_frameAfter l.retained (Nat.le_of_lt byte)
    simp only [linkAfter, complete_frameAfter byte (by omega), ← retainedAfter_succ l.retained byte (by omega), quotient,
      Nat.add_sub_cancel, Nat.zero_lt_succ, decide_true, Bool.true_or, List.range_succ, List.map_append, List.map_cons, List.map_nil, ← given]
    rfl

/-- The falling edge of SCLK before bit `n`. -/
theorem sclkFall_linkAfter (released : s.resetPin = false) (l : Link) (short : tail.length < 8) (bound : n ≤ (bytesBits bs ++ tail).length) :
    (s.withLink (linkAfter l bs tail n)).sclkFall =
      s.withLink { linkAfter l bs tail n with sclk := false, sdout := some (shownBit l.retained bs n) } := by
  by_cases high : (linkAfter l bs tail n).sclk = true
  · obtain ⟨off, -⟩ | ⟨g, -, -, frame, e⟩ | ⟨-, -, off, -⟩ := (s.withLink (linkAfter l bs tail n)).sclkFall_cases high
    · exact absurd off (by simp [State.withLink, linkAfter, released])
    · obtain rfl := Option.some.inj frame
      rw [e, ← sdoutBit_frameAfter l.retained short bound]
      rfl
    · cases off
  · have low : (linkAfter l bs tail n).sclk = false := by simpa using high
    obtain ⟨rfl, -⟩ : n = 0 ∧ l.sclk = false := by simpa [linkAfter] using low
    rw [State.sclkFall_low _ low, ← low]
    rfl

/-- R170: the rising edge that samples bit `n`. -/
theorem sclkRisingEdge_linkAfter (released : s.resetPin = false) (l : Link) (short : tail.length < 8)
    (bound : n < (bytesBits bs ++ tail).length) :
    exec (.sclkRisingEdge (bytesBits bs ++ tail)[n]) (s.withLink (linkAfter l bs tail n)) =
      .next (s.withLink (linkAfter l bs tail (n + 1))) := by
  have shifted := shift_linkAfter l short bound
  refine congrArg Host.Outcome.next ?_
  rw [sclkFall_linkAfter released l short (Nat.le_of_lt bound), ← shifted]
  obtain ⟨g, -, -, frame, e⟩ | ⟨off, -⟩ :=
    State.sample_cases ((s.withLink { linkAfter l bs tail n with sclk := false, sdout := some (shownBit l.retained bs n) }).setSclk true)
      (bytesBits bs ++ tail)[n]
  · obtain rfl := Option.some.inj frame
    rw [e]
    rfl
  · exact absurd off (by simp [State.withLink, State.setSclk, linkAfter, released])

theorem State.shiftBits_append (s : State) (a d : List Bool) : s.shiftBits (a ++ d) = (s.shiftBits a).shiftBits d :=
  List.foldl_append

theorem State.shiftBits_one {t : State} {b : Bool} (edge : exec (.sclkRisingEdge b) s = .next t) : s.shiftBits [b] = t := by
  simp only [State.shiftBits, List.foldl, edge]

/-- R170: the link after the assertion of SSEL and the first `n` bits of a frame. -/
theorem selectAndShift_eq (released : s.resetPin = false) (deselected : s.link.ssel = false) (short : tail.length < 8)
    (bound : n ≤ (bytesBits bs ++ tail).length) :
    s.selectAndShift ((bytesBits bs ++ tail).take n) = s.withLink (linkAfter s.link bs tail n) := by
  have selects : exec .sselAssertion s = .next (s.withLink (linkAfter s.link bs tail 0)) := by
    show execSselAssertion s = _
    unfold execSselAssertion
    rw [if_neg (by simp [deselected]), if_neg (by simp [released])]
    rfl
  have whole (bits : List Bool) : s.selectAndShift bits = (s.withLink (linkAfter s.link bs tail 0)).shiftBits bits := by
    rw [State.selectAndShift, selects]
  induction n with
  | zero => exact whole []
  | succ n ih =>
    have before := ih (Nat.le_of_lt bound)
    rw [whole] at before
    rw [whole, ← List.take_concat_get' _ _ bound, State.shiftBits_append, before]
    exact State.shiftBits_one (sclkRisingEdge_linkAfter released s.link short bound)

/-- R170: what has been shifted in of a frame begins it. -/
theorem accepts_linkAfter (released : s.resetPin = false) (l : Link) (short : tail.length < 8)
    (bound : n ≤ (bytesBits bs ++ tail).length) : (s.withLink (linkAfter l bs tail n)).accepts bs tail = true := by
  have whole : n / 8 ≤ bs.length := by
    rw [List.length_append, bytesBits_length] at bound
    omega
  have begins : (frameAfter bs tail n).begins bs tail = true := by
    simp only [Frame.begins, frameAfter, Config.frameKept, whole, decide_true, beq_self_eq_true, Bool.true_and,
      ← drop_bytesBits bs tail _ whole]
    exact List.isPrefixOf_iff_prefix.mpr (List.take_prefix _ _)
  show (!s.resetPin && (frameAfter bs tail n).begins bs tail) = true
  rw [released, begins]
  rfl

theorem accepts_of_deselected (released : s.resetPin = false) (deselected : s.link.ssel = false) : s.accepts bs tail = true := by
  simp [State.accepts, released, deselected]

/-! ### Effects are blind to the lines of the link -/

/-- An operation neither reads nor writes the link. -/
def LinkBlind (op : State → State) : Prop := ∀ (s : State) (l : Link), op (s.withLink l) = (op s).withLink l

theorem LinkBlind.comp {op op' : State → State} (after : LinkBlind op') (first : LinkBlind op) : LinkBlind fun s => op' (op s) :=
  fun s l => (congrArg op' (first s l)).trans (after _ l)

theorem hand_linkBlind (b : RecordBody) : LinkBlind (·.hand b) := fun s l => by
  show (s.withLink l).hand b = _
  rw [State.hand_reads s (s.withLink l) b rfl rfl]
  exact congrArg (State.withLink · l) (s.hand_frame b).symm

theorem joinOne_linkBlind : LinkBlind State.joinOne := fun s l => by
  have same : allMasters.filter (s.withLink l).mustJoin = allMasters.filter s.mustJoin := rfl
  unfold State.joinOne
  rw [same]
  split <;> rfl

theorem joinWaiters_linkBlind : LinkBlind State.joinWaiters := fun s l => by
  simp only [State.joinWaiters, joinOne_linkBlind _ l]

/-- The answer of an effect does not depend on the lines of the link, and what it does does not either. -/
def Effect.LinesBlind (e : Effect) : Prop :=
  ∀ (s : State) (l : Link) (f : List Byte), l.origin = s.link.origin →
    (e (s.withLink l)).2.answered f (e (s.withLink l)).1 = (e s).2.answered f (e s).1

theorem Effect.LinesBlind.of_commutes {e : Effect}
    (commutes : ∀ (s : State) (l : Link), l.origin = s.link.origin → e (s.withLink l) = ((e s).1, (e s).2.withLink l)) :
    e.LinesBlind := fun s l f origin => by
  have keeps : (e s).2 = (e s).2.withLink s.link := congrArg Prod.snd (commutes s s.link rfl)
  rw [commutes s l origin]
  show State.answered _ f (e s).1 = State.answered _ f (e s).1
  rw [keeps]
  simp only [State.answered, State.withLink, origin]

theorem Effect.LinesBlind.ranged {α : Type} {arg : Option α} {e : α → Effect} (each : ∀ a, Effect.LinesBlind (e a)) :
    Effect.LinesBlind (ranged arg e) := by
  cases arg with
  | none => exact .of_commutes fun _ _ _ => rfl
  | some a => exact each a

theorem setModeEffect_linesBlind (mode : Mode) : (setModeEffect mode).LinesBlind := .of_commutes fun s l _ => by
  have mode' : (s.withLink l).mode = s.mode := rfl
  unfold setModeEffect
  rw [mode']
  split
  · rfl
  · exact congrArg (Prod.mk _) (hand_linkBlind (.mode mode) { s with mode := mode } l)

theorem peekEffect_linesBlind : peekEffect.LinesBlind := .of_commutes fun s l _ => by
  cases records : s.queue.records with
  | nil => rw [peekEffect_nil records, peekEffect_nil (s := s.withLink l) records]
  | cons r rest => rw [peekEffect_cons records, peekEffect_cons (s := s.withLink l) records]

theorem popEffect_linesBlind : popEffect.LinesBlind := .of_commutes fun s l _ => by
  cases records : s.queue.records with
  | nil => rw [popEffect_nil records, popEffect_nil (s := s.withLink l) records]
  | cons r rest =>
    rw [popEffect_cons records, popEffect_cons (s := s.withLink l) records]
    split <;> rfl

theorem isolateMaster_linkBlind (m : Master) (cause : StandingCause) : LinkBlind (·.isolateMaster m cause) := fun s l =>
  congrArg State.raiseStanding (hand_linkBlind (.standing m (s.conf m).standing .isolated cause 256 (some (s.dropCount m))) (s.cutOff m) l)

theorem recover_linkBlind (m : Master) (cause : StandingCause) : LinkBlind (·.recover m cause) := fun s l =>
  congrArg State.raiseRecovery (hand_linkBlind (.standing m .isolated .active cause 0 none) (s.readmit m) l)

theorem clearScoreEffect_linesBlind (m : Master) : (clearScoreEffect m).LinesBlind := .of_commutes fun s l _ => by
  cases standing : (s.conf m).standing with
  | active => rw [clearScoreEffect_active standing, clearScoreEffect_active (s := s.withLink l) standing]; rfl
  | limited =>
    rw [clearScoreEffect_limited standing, clearScoreEffect_limited (s := s.withLink l) standing]
    have handed := hand_linkBlind (.standing m .limited .active .service 0 none)
      (s.setConf m { s.conf m with score := 0, standing := .active, deferral := 0 }) l
    exact congrArg (Prod.mk _)
      ((congrArg (fun u : State => u.raiseRecovery.joinWaiters) handed).trans (joinWaiters_linkBlind (State.raiseRecovery _) l))
  | isolated => rw [clearScoreEffect_isolated standing, clearScoreEffect_isolated (s := s.withLink l) standing]

theorem isolateEffect_linesBlind (m : Master) : (isolateEffect m).LinesBlind := .of_commutes fun s l _ => by
  by_cases isolated : (s.conf m).standing = .isolated
  · rw [isolateEffect_isolated isolated, isolateEffect_isolated (s := s.withLink l) isolated]
  · rw [isolateEffect_live isolated, isolateEffect_live (s := s.withLink l) isolated]
    exact congrArg (Prod.mk _) (joinWaiters_linkBlind.comp (isolateMaster_linkBlind m .service) s l)

theorem restoreEffect_linesBlind (m : Master) : (restoreEffect m).LinesBlind := .of_commutes fun s l _ => by
  by_cases isolated : (s.conf m).standing = .isolated
  · rw [restoreEffect_isolated isolated, restoreEffect_isolated (s := s.withLink l) isolated]
    exact congrArg (Prod.mk _) (joinWaiters_linkBlind.comp (recover_linkBlind m .service) s l)
  · rw [restoreEffect_live isolated, restoreEffect_live (s := s.withLink l) isolated]

theorem holdEffect_linesBlind : holdEffect.LinesBlind := .of_commutes fun s l _ => by
  have mem : (s.withLink l).mem = s.mem := rfl
  rw [holdEffect_eq, holdEffect_eq, mem]
  cases s.mem.state <;> rfl

theorem releaseEffect_linesBlind : releaseEffect.LinesBlind := .of_commutes fun s l _ => by
  have mem : (s.withLink l).mem = s.mem := rfl
  rw [releaseEffect_eq, releaseEffect_eq, mem]
  cases s.mem.state <;> rfl

theorem memStandingChanged_linkBlind (old : MemStanding) (cause : MemoryCause) : LinkBlind (·.memStandingChanged old cause) :=
  fun s l => by
    have health : (s.withLink l).health = s.health := rfl
    simp only [State.memStandingChanged_eq, health]
    split
    · exact congrArg State.raiseMemory (hand_linkBlind _ s.failQueued l)
    · exact congrArg State.raiseMemory (hand_linkBlind _ s l)

theorem restoreMemoryEffect_linesBlind : restoreMemoryEffect.LinesBlind := .of_commutes fun s l _ => by
  have health : (s.withLink l).health = s.health := rfl
  unfold restoreMemoryEffect
  simp only [health]
  split
  · rfl
  · exact congrArg (Prod.mk _) (memStandingChanged_linkBlind s.health.standing .service
      { s with mem := s.mem.restored, health := { score := 0, standing := .sound } } l)

theorem State.statusData_withLink (s : State) (l : Link) (origin : l.origin = s.link.origin) :
    (s.withLink l).statusData = s.statusData := by
  have same : (s.withLink l).link.origin = s.link.origin := origin
  unfold State.statusData
  rw [same]
  rfl

theorem commandEffect_linesBlind (c : Instr) : (commandEffect c).LinesBlind := by
  cases c with
  | readStatus => exact .of_commutes fun s l origin => congrArg (fun d => (okData d, s.withLink l)) (s.statusData_withLink l origin)
  | readMaster | readWindow | readSlot | setTiming | setDeferral | setRecordMask | setAlertEnables | clearAlerts | writeWindow =>
    exact .ranged fun _ => .of_commutes fun _ _ _ => rfl
  | setMode => exact .ranged setModeEffect_linesBlind
  | setRecovery => exact .ranged fun _ => .ranged fun _ => .of_commutes fun _ _ _ => rfl
  | peekFault => exact peekEffect_linesBlind
  | popFault => exact popEffect_linesBlind
  | clearScore => exact .ranged clearScoreEffect_linesBlind
  | isolate => exact .ranged isolateEffect_linesBlind
  | restore => exact .ranged restoreEffect_linesBlind
  | holdMemory => exact holdEffect_linesBlind
  | releaseMemory => exact releaseEffect_linesBlind
  | restoreMemory => exact restoreMemoryEffect_linesBlind
  | resetPart => exact fun _ _ _ _ => rfl
  | _ => exact .of_commutes fun _ _ _ => rfl

/-- Settles O6: what has been shifted in begins the frame, and the effect of the command is blind to the lines of the link. -/
theorem shiftedBitsAreTheCommand : Obligations.ShiftedBitsAreTheCommand := by
  intro s c f n encoded deselected released
  have whole : s.selectAndShift ((bytesBits f).take n) = s.withLink (linkAfter s.link f [] (min n (bytesBits f).length)) := by
    rw [List.take_eq_take_min]
    have shifted := selectAndShift_eq (bs := f) (tail := []) (n := min n (bytesBits f).length) released deselected (by simp) (by simp)
    rwa [List.append_nil] at shifted
  have accepts := accepts_linkAfter (s := s) (bs := f) (tail := []) (n := min n (bytesBits f).length) released s.link (by simp) (by simp)
  rw [whole, exec_of_takesFrame ⟨encoded, accepts⟩ rfl, exec_of_takesFrame ⟨encoded, accepts_of_deselected released deselected⟩ rfl,
    commandEffect_linesBlind c s (linkAfter s.link f [] _) f rfl]

/-! ### The answer shifted out (R175) -/

/-- R175: the byte given in place `i` of a read-answer frame. -/
theorem givenByte_answer (a : Answer) (dummies : List Byte) (i : Nat) :
    givenByte (some a) (0x00#8 :: dummies) i = if i = 0 then 0xFF#8 else a.bytes.getD (i - 1) 0xFF#8 := by
  cases i <;> rfl

theorem shownBit_eq (r : Option Answer) (n : Nat) : some (shownBit r bs n) = (byteBits (givenByte r bs (n / 8)))[n % 8]? :=
  (byteBits_getElem? _ _ (Nat.mod_lt n (by decide))).symm

theorem execReadAnswerFrame_of_accepts {dummies : List Byte} (short : tail.length < 8) (accepts : s.accepts (0x00#8 :: dummies) tail = true) :
    exec (.readAnswerFrame dummies tail) s = .next (s.deselect (givenBytes s.link.retained (0x00#8 :: dummies))) :=
  if_pos (by simp [short, accepts])

/-- Settles O7: SDOUT beside each bit, and the bytes given, by the link after each number of bits. -/
theorem shiftedBitsGiveTheAnswer : Obligations.ShiftedBitsGiveTheAnswer := by
  intro s a dummies tail short deselected released retained bits given ended
  have after (n : Nat) (bound : n ≤ bits.length) : s.selectAndShift (bits.take n) = s.withLink (linkAfter s.link (0x00#8 :: dummies) tail n) :=
    selectAndShift_eq released deselected short bound
  have gives (i : Nat) : givenByte s.link.retained (0x00#8 :: dummies) i = given i := by rw [retained, givenByte_answer]
  have shows' (n : Nat) : some (shownBit s.link.retained (0x00#8 :: dummies) n) = (byteBits (given (n / 8)))[n % 8]? := by
    rw [shownBit_eq, gives]
  have bytes : bits.length / 8 = dummies.length + 1 := by
    simp only [bits, List.length_append, bytesBits_length, List.length_cons]
    omega
  have run (k : Nat) : (List.range k).map (givenByte s.link.retained (0x00#8 :: dummies)) = (List.range k).map given :=
    List.map_congr_left fun i _ => gives i
  have all : s.selectAndShift bits = s.withLink (linkAfter s.link (0x00#8 :: dummies) tail bits.length) := by
    rw [← after _ (Nat.le_refl _), List.take_length]
  refine ⟨fun n bound => ?_, fun n bound => ⟨?_, ?_⟩, ?_, ?_, ?_⟩
  · rw [after n bound, sclkFall_linkAfter released s.link short bound, ← shows']
    rfl
  · rw [after _ bound, ← shows']
    rfl
  · rw [after _ bound]
    simp [State.withLink, linkAfter]
  · rw [all, ← bytes, ← run]
    rfl
  · have kept : retainedAfter s.link.retained (0x00#8 :: dummies) bits.length = s.link.retained := if_neg (by simp [isCommandFrame])
    rw [all, execReadAnswerFrame_of_accepts short (accepts_linkAfter released s.link short (Nat.le_refl _))]
    refine congrArg (fun l : Link => Host.Outcome.next (s.withLink l)) ?_
    show Link.mk false false none (retainedAfter s.link.retained (0x00#8 :: dummies) bits.length) s.link.origin none
      ((List.range (dummies.length + 1)).map (givenByte (retainedAfter s.link.retained (0x00#8 :: dummies) bits.length) (0x00#8 :: dummies))) = _
    rw [kept, run]
  · rw [execReadAnswerFrame_of_accepts short (accepts_of_deselected released deselected)]
    refine congrArg (fun l : Link => Host.Outcome.next (s.withLink l)) ?_
    show Link.mk false false none _ _ none ((List.range (dummies.length + 1)).map (givenByte _ _)) = _
    rw [run]

/-! ### The lines of the link (R170, R171, R181, R182) -/

/-- R171: SDOUT shows FFh in the first byte and in a command frame. -/
theorem sdoutBit_of_command (r : Option Answer) {g : Frame} (unanswered : g.count = 0 ∨ isCommandFrame g.bytes = true) :
    sdoutBit r g = true := by
  have gives : givenByte r g.bytes g.count = 0xFF#8 := by
    cases count : g.count with
    | zero => rfl
    | succ n =>
      have command : isCommandFrame g.bytes = true := unanswered.resolve_left (by omega)
      cases bytes : g.bytes with
      | nil => rfl
      | cons b rest =>
        rw [bytes] at command
        exact if_neg (by simpa [isCommandFrame] using command)
  rw [sdoutBit, gives]
  have ones (j : Nat) (bound : j < 8) : (0xFF#8).getLsbD j = true := by
    match j, bound with
    | 0, _ | 1, _ | 2, _ | 3, _ | 4, _ | 5, _ | 6, _ | 7, _ => rfl
  exact ones _ (by omega)

/-- R175: the bit of the retained answer in a read-answer frame. -/
theorem sdoutBit_of_answer {g : Frame} {a : Answer} {rest : List Byte} (begun : 0 < g.count) (bytes : g.bytes = 0x00#8 :: rest) :
    sdoutBit (some a) g = (a.bytes.getD (g.count - 1) 0xFF#8).getLsbD (7 - g.bits.length) := by
  obtain ⟨_, count, _⟩ := g
  cases count with
  | zero => cases begun
  | succ n =>
    obtain rfl := bytes
    rfl

/-- R182: an edge of SCLK that the link takes no part in changes the level alone. -/
theorem sclkFall_setSclk (idle : s.resetPin = true ∨ s.link.ssel = false) : s.sclkFall.setSclk true = s.setSclk true := by
  cases high : s.link.sclk with
  | false => rw [s.sclkFall_low high]
  | true =>
    obtain ⟨-, e⟩ | ⟨_, released, selected, -⟩ | ⟨released, selected, -⟩ := s.sclkFall_cases high
    · rw [e]; rfl
    all_goals simp [released, selected] at idle

theorem execSclkRisingEdge_idle (b : Bool) (idle : s.resetPin = true ∨ s.link.ssel = false) :
    exec (.sclkRisingEdge b) s = .next (s.setSclk true) := by
  show Host.Outcome.next ((s.sclkFall.setSclk true).sample b) = _
  rw [sclkFall_setSclk idle]
  obtain ⟨_, released, selected, -⟩ | ⟨-, e⟩ := (s.setSclk true).sample_cases b
  · have released : s.resetPin = false := released
    have selected : s.link.ssel = true := selected
    simp [released, selected] at idle
  · rw [e]

/-- R170: in a frame in progress a falling edge shows a bit of it, and draws nothing. -/
theorem sclkFall_of_frame {g : Frame} (frame : s.link.frame = some g) :
    s.sclkFall = s.withLink { s.link with sclk := false, sdout := s.sclkFall.link.sdout } := by
  cases high : s.link.sclk with
  | false =>
    rw [s.sclkFall_low high, ← high]
    rfl
  | true =>
    obtain ⟨-, e⟩ | ⟨_, -, -, -, e⟩ | ⟨-, -, ignored, -⟩ := s.sclkFall_cases high
    · rw [e]; rfl
    · rw [e]; rfl
    · simp [frame] at ignored

/-- R170: the rising edge that samples a bit of the frame in progress. -/
theorem execSclkRisingEdge_of_frame {g : Frame} (b : Bool) (released : s.resetPin = false) (selected : s.link.ssel = true)
    (frame : s.link.frame = some g) :
    exec (.sclkRisingEdge b) s =
      .next (s.withLink (Link.shift { s.link with sclk := true, sdout := s.sclkFall.link.sdout } g b)) := by
  have risen : s.sclkFall.setSclk true = s.withLink { s.link with sclk := true, sdout := s.sclkFall.link.sdout } :=
    congrArg (State.setSclk · true) (sclkFall_of_frame frame)
  show Host.Outcome.next ((s.sclkFall.setSclk true).sample b) = _
  rw [risen]
  obtain ⟨g', -, -, same, e⟩ | ⟨off, -⟩ := (s.withLink { s.link with sclk := true, sdout := s.sclkFall.link.sdout }).sample_cases b
  · obtain rfl := Option.some.inj (frame.symm.trans same)
    rw [e]
    rfl
  · simp [State.withLink, released, selected, frame] at off

/-- Settles O8: the events at the lines of the link, one by one. -/
theorem linkLineEvents : Obligations.LinkLineEvents := by
  refine ⟨fun s released => ⟨fun deselected => ?_, fun g b selected frame => ?_, fun g selected frame high => ?_,
    fun b deselected => execSclkRisingEdge_idle b (.inr deselected), fun code command fits => ?_, fun g selected frame first => ?_,
    fun selected ignored => ⟨fun b => ?_, fun code => ?_⟩⟩,
    fun s reset => ⟨fun deselected => ?_, fun b => execSclkRisingEdge_idle b (.inl reset), fun high => ?_, fun code => ?_⟩,
    fun s selected => ⟨if_pos selected, fun ignored => ?_⟩⟩
  · show execSselAssertion s = _
    unfold execSselAssertion
    rw [if_neg (by simp [deselected]), if_neg (by simp [released]), Link.start, sdoutBit_of_command _ (.inl rfl)]
    rfl
  · refine ⟨_, execSclkRisingEdge_of_frame b released selected frame, ?_, ?_, fun within => ?_, fun last => ?_⟩
    · unfold Link.shift
      split <;> rfl
    · unfold Link.shift
      split <;> rfl
    · simp only [Link.shift, within, if_true]
      exact ⟨rfl, rfl⟩
    · simp only [Link.shift, last, Nat.lt_irrefl, if_false]
      exact ⟨rfl, rfl, rfl⟩
  · obtain ⟨off, -⟩ | ⟨g', -, -, same, e⟩ | ⟨-, -, off, -⟩ := s.sclkFall_cases high
    · simp [released, selected] at off
    · obtain rfl := Option.some.inj (frame.symm.trans same)
      refine ⟨_, e, sdoutBit_of_command _, fun a rest begun bytes retained => ?_⟩
      rw [retained, sdoutBit_of_answer begun bytes]
    · simp [frame] at off
  · refine if_pos ?_
    obtain deselected | ⟨selected, bits, frame, -, begins⟩ := fits
    · simp [State.acceptsCode, released, command, deselected]
    · simpa [State.acceptsCode, released, command, selected, frame] using begins
  · refine if_pos ?_
    simp [Link.endIgnored, selected, frame, first]
  · obtain ⟨_, -, -, frame, -⟩ | ⟨-, e⟩ := (s.sclkFall.setSclk true).sample_cases b
    · have frame : s.sclkFall.link.frame = some _ := frame
      simp [ignored] at frame
    · refine ⟨_, congrArg Host.Outcome.next e, ?_⟩
      conv => lhs; rw [s.sclkFall_frame]
      rfl
  · exact if_neg (by simp [State.acceptsCode, selected, ignored])
  · show execSselAssertion s = _
    unfold execSselAssertion
    rw [if_neg (by simp [deselected]), if_pos reset]
  · obtain ⟨-, e⟩ | ⟨_, released, -⟩ | ⟨released, -⟩ := s.sclkFall_cases high
    · exact e
    all_goals simp [reset] at released
  · exact if_neg (by simp [State.acceptsCode, reset])
  · have ends : exec .ignoredFrameEnd s = .next (s.deselect s.link.given) := if_pos (by simp [Link.endIgnored, selected, ignored])
    rw [ends, State.deselect, ← ignored]

/-! ### The queue of commands (step) -/

/-- Settles O1: the front of the queue, or the falling edge of SCLK. -/
theorem frontCommandIsCarriedOut : Obligations.FrontCommandIsCarriedOut := by
  refine ⟨fun s c rest front => ?_, fun s empty => ?_⟩
  · unfold step
    rw [front]
  · have idles : step s = .next s.sclkFall := by
      unfold step
      rw [empty]
    refine ⟨fun low => ?_, fun high => ⟨idles, s.sclkFall_frame⟩⟩
    rw [idles, s.sclkFall_low low]

end

end Sys2Proof.Machine
end

section
/-! SUPPORT. The shared events: records handed over, the isolation event, score changes, and the joining of the wait list
(R26, R30, R62 to R70, R79 to R83, R157). -/

namespace Sys2Proof.Machine

section
variable {s t u : State} {m p q : Master} {k : SlotIx} {x : Slot}

/-! ### Records (R157, R158) -/

theorem State.hand_excluded {b : RecordBody} (excluded : s.queue.mask.getLsbD b.code = false) : s.hand b = s :=
  if_neg (by simp [FaultQueue.admits, excluded])

theorem State.hand_stored {b : RecordBody} (admitted : s.queue.mask.getLsbD b.code = true) (room : s.queue.records.length < 32) :
    s.hand b = s.store b := by
  unfold State.hand FaultQueue.admits
  rw [if_pos admitted]
  exact if_pos room

theorem State.hand_lost {b : RecordBody} (admitted : s.queue.mask.getLsbD b.code = true) (full : 32 ≤ s.queue.records.length) :
    s.hand b = s.lose := by
  unfold State.hand FaultQueue.admits
  rw [if_pos admitted, if_neg (by simpa [Config.queueCapacity] using full)]

/-- Settles O20: excluded, stored or lost. -/
theorem recordsAreHandedOver : Obligations.RecordsAreHandedOver := by
  intro s b
  refine ⟨State.hand_excluded, fun admitted room => ⟨s.hand_frame b, ?_⟩, fun admitted full => ⟨s.hand_frame b, ?_⟩⟩
  · rw [State.hand_stored admitted room]
    by_cases empty : s.queue.records = []
    · simp [State.store, empty, State.raiseQueue, State.withFlags]
    · simp [State.store, empty]
  · rw [State.hand_lost admitted full]
    exact ⟨rfl, rfl⟩

/-! ### The isolation event (R79 to R83) -/

theorem Slot.droppedWith_eq (x : Slot) (m : Master) : x.droppedWith m = (x.master == m && !x.orphan && x.phase != .issued) := rfl

theorem State.dropCount_eq (s : State) (m : Master) :
    s.dropCount m = allSlots.countP fun k => (s.slot k).any fun x => x.master == m && !x.orphan && x.phase != .issued := by
  refine List.countP_congr fun k _ => ?_
  unfold State.owns Slot.ownedBy
  cases s.slot k <;> rfl

theorem State.dropWords_eq (s : State) (m : Master) :
    s.dropWords m =
      (allSlots.map fun k => if (s.slot k).any fun x => x.master == m && !x.orphan && x.phase != .issued then s.reservedAt k else 0).sum := by
  refine congrArg List.sum (List.map_congr_left fun k _ => ?_)
  unfold State.reservedAt
  cases s.slot k with
  | none => rfl
  | some x => rfl

/-- R10: what the isolation event and the port clear make of each slot. -/
theorem dropOne_facts (m : Master) (o : Option Slot) :
    (∀ x, o = some x → (x.master == m && !x.orphan && x.phase != .issued) = true → dropOne m o = none) ∧
      (∀ x, o = some x → x.master = m → x.phase = .issued → dropOne m o = some { x with orphan := true }) ∧
      (∀ x, o = some x → x.master ≠ m ∨ x.orphan = true → dropOne m o = some x) ∧ (o = none → dropOne m o = none) := by
  refine ⟨?_, ?_, ?_, ?_⟩
  · rintro x rfl ends
    exact dropOne_dropped m x ends
  · rintro x rfl master issued
    cases orphan : x.orphan with
    | false => exact dropOne_issued m x (by simp [Slot.ownedBy, master, orphan]) issued
    | true =>
      rw [dropOne_other m x (by simp [Slot.ownedBy, orphan]), ← orphan]
  · rintro x rfl other
    exact dropOne_other m x (by simpa [Slot.ownedBy, or_iff_not_imp_left] using other)
  · rintro rfl
    rfl

theorem ListEntry.map_toDiscard (l : List ListEntry) : l.map ListEntry.toDiscard = l.map fun _ => .discard := rfl

theorem Item.withdraw_eq (i : Item) :
    i.withdraw = if i.withdrawn = false ∧ i.status ≠ .cutoff then { i with withdrawn := true, last := true } else i := by
  simp [Item.withdraw, Item.ofSlot]

/-- Settles O21: the isolation event is the cutting off of the master, its record and its flag. -/
theorem isolationDropsTheMaster : Obligations.IsolationDropsTheMaster := by
  intro s m cause t ends dropped
  have recorded (b : RecordBody) : ((s.cutOff m).hand b).raiseStanding.slots = (s.cutOff m).slots := State.hand_slots _ b
  have slots : t.slots = (s.cutOff m).slots := recorded _
  have ports : t.ports = (s.cutOff m).ports := State.hand_ports (s.cutOff m) _
  have masters : t.masters = (s.cutOff m).masters := State.hand_masters (s.cutOff m) _
  have freeWords : t.freeWords = (s.cutOff m).freeWords := State.hand_freeWords (s.cutOff m) _
  have waitList : t.waitList = (s.cutOff m).waitList := State.hand_waitList (s.cutOff m) _
  have slot (k : SlotIx) : t.slot k = dropOne m (s.slot k) := (State.slot_congr slots k).trans (s.cutOff_slot m k)
  have dropping (k : SlotIx) := dropOne_facts m (s.slot k)
  refine ⟨fun k x live ends => ?_, fun k x live master issued => ?_, fun k x live other => ?_, fun k free => ?_, ?_, ?_,
    fun n other => ?_, ?_, fun q other => ?_, waitList.trans ?_, ?_⟩
  · rw [slot, (dropping k).1 x live ends]
  · rw [slot, (dropping k).2.1 x live master issued]
  · rw [slot, (dropping k).2.2.1 x live other]
  · rw [slot, (dropping k).2.2.2 free]
  · rw [freeWords]
    exact congrArg (s.freeWords + ·) (s.dropWords_eq m)
  · rw [State.conf_congr masters, s.cutOff_conf_self]
  · rw [State.conf_congr masters, s.cutOff_conf_ne other]
  · rw [State.port_congr ports, s.cutOff_port_self]
    have withdraws : Item.withdraw = fun i : Item =>
        if i.withdrawn = false ∧ i.status ≠ .cutoff then { i with withdrawn := true, last := true } else i := funext Item.withdraw_eq
    rw [withdraws]
    rfl
  · rw [State.port_congr ports, s.cutOff_port_ne other]
  · show s.waitList.filter (· != m) = _
    exact List.filter_congr fun p _ => by by_cases same : p = m <;> simp [same]
  · have count : dropped = s.dropCount m := (s.dropCount_eq m).symm
    rw [slots, ports, masters, freeWords, waitList, count]
    rfl

/-! ### Scores (R52, R62 to R70) -/

theorem standingOf_active {score : Nat} (low : score < 128) : standingOf score = .active := by
  simp [standingOf, Config.limitedAt, low]

theorem standingOf_limited {score : Nat} (reached : 128 ≤ score) (below : score < 256) : standingOf score = .limited := by
  simp [standingOf, Config.limitedAt, Config.scoreMax, Nat.not_lt.mpr reached, below]

theorem standingOf_isolated {score : Nat} (full : 256 ≤ score) : standingOf score = .isolated := by
  simp [standingOf, Config.limitedAt, Config.scoreMax, Nat.not_lt.mpr full, show ¬score < 128 by omega]

theorem State.writeScore_same {score : Nat} (live : (s.conf m).standing ≠ .isolated) (same : standingOf score = (s.conf m).standing) :
    s.writeScore m score = s.setConf m { s.conf m with score := score } := by
  unfold State.writeScore
  cases standing : (s.conf m).standing with
  | active | limited => rw [standing] at same; simp only [standing, same]
  | isolated => exact absurd standing live

theorem State.writeScore_limited {score : Nat} (active : (s.conf m).standing = .active) (reached : standingOf score = .limited) :
    s.writeScore m score =
      ((s.setConf m { s.conf m with score := score, standing := .limited }).hand
        (.standing m .active .limited .score score none)).raiseStanding := by
  unfold State.writeScore
  simp only [active, reached]

theorem State.writeScore_active {score : Nat} (limited : (s.conf m).standing = .limited) (below : standingOf score = .active) :
    s.writeScore m score =
      ((s.setConf m { s.conf m with score := score, standing := .active, deferral := 0 }).hand
        (.standing m .limited .active .score score none)).raiseRecovery := by
  unfold State.writeScore
  simp only [limited, below]

theorem State.writeScore_isolated {score : Nat} (limited : (s.conf m).standing = .limited) (full : standingOf score = .isolated) :
    s.writeScore m score = s.isolateMaster m .score := by
  unfold State.writeScore
  simp only [limited, full]

theorem State.fault_pass (pass : s.mode = .pass) (w : Nat) (record : Nat → RecordBody) :
    s.fault m w record = s.hand (record (s.conf m).score) := by
  simp [State.fault, State.faultScore, pass]

theorem State.fault_guarded (guarded : s.mode = .guarded) (live : (s.conf m).standing ≠ .isolated) (w : Nat) (record : Nat → RecordBody) :
    s.fault m w record = (s.hand (record (min 256 ((s.conf m).score + w)))).writeScore m (min 256 ((s.conf m).score + w)) := by
  cases standing : (s.conf m).standing with
  | active | limited => simp [State.fault, State.faultScore, guarded, standing, Config.scoreMax]
  | isolated => exact absurd standing live

theorem State.cleanCompletion_pass (pass : s.mode = .pass) : s.cleanCompletion m = s := by
  simp [State.cleanCompletion, pass]

theorem State.cleanCompletion_guarded (guarded : s.mode = .guarded) (live : (s.conf m).standing ≠ .isolated) :
    s.cleanCompletion m = s.writeScore m ((s.conf m).score - 1) := by
  cases standing : (s.conf m).standing with
  | active | limited => simp [State.cleanCompletion, guarded, standing]
  | isolated => exact absurd standing live

/-- Settles O22: the record, and then the new score with the standing that it gives. -/
theorem scoreChangesAreApplied : Obligations.ScoreChangesAreApplied := by
  intro s m w record c
  have scored (b : RecordBody) : (s.hand b).conf m = c := s.hand_conf b m
  refine ⟨fun pass => ⟨State.fault_pass pass w record, State.cleanCompletion_pass pass⟩, fun guarded active low => ?_,
    fun guarded limited reached below => ?_⟩
  · have live : c.standing ≠ .isolated := by simp [active]
    refine ⟨fun stays => ?_, fun crosses within => ?_, ?_⟩
    · rw [State.fault_guarded guarded live, Nat.min_eq_right (show c.score + w ≤ 256 by omega), State.writeScore_same (by rwa [scored])
        (by rw [scored, active, standingOf_active stays]), scored]
    · rw [State.fault_guarded guarded live, Nat.min_eq_right (show c.score + w ≤ 256 by omega), State.writeScore_limited (by rwa [scored])
        (standingOf_limited crosses within), scored]
    · rw [State.cleanCompletion_guarded guarded live, State.writeScore_same live (by rw [standingOf_active (show c.score - 1 < 128 by omega)]; exact active.symm)]
  · have live : c.standing ≠ .isolated := by simp [limited]
    refine ⟨fun within => ?_, fun full => ?_, fun above => ?_, fun edge => ?_⟩
    · rw [State.fault_guarded guarded live, Nat.min_eq_right (show c.score + w ≤ 256 by omega), State.writeScore_same (by rwa [scored])
        (by rw [scored, limited, standingOf_limited (by omega) within]), scored]
    · rw [State.fault_guarded guarded live, Nat.min_eq_left full, State.writeScore_isolated (by rwa [scored])
        (standingOf_isolated (Nat.le_refl _))]
    · rw [State.cleanCompletion_guarded guarded live,
        State.writeScore_same live
          (by rw [standingOf_limited (show 128 ≤ c.score - 1 by omega) (show c.score - 1 < 256 by omega)]; exact limited.symm)]
    · have lowered : (s.conf m).score - 1 = 127 := (congrArg (· - 1) edge :)
      rw [State.cleanCompletion_guarded guarded live, lowered, State.writeScore_active limited (standingOf_active (by decide))]

end

end Sys2Proof.Machine
end

section
/-! SUPPORT. The admission wait list, the presentation and the admission of requests, and the CUTOFF event (R21 to R32, R38). -/

namespace Sys2Proof.Machine

section
variable {s t u : State} {m p q : Master} {k : SlotIx} {x : Slot} {r : Request} {joined : List Master}

/-! ### The conditions of admission (R7, R12, R23) -/

/-- R7: the next admission number is free exactly where no slot of the master holds the number after it. -/
theorem State.serialFree_iff (s : State) (m : Master) :
    s.serialFree m = true ↔ ∀ k x, s.slot k = some x → x.master = m → x.orphan = false → s.counter m + 1#8 ≠ x.admission := by
  unfold State.serialFree
  cases oldest : s.oldest m fun _ => true with
  | none =>
    have free := (s.oldest_none m _).mp oldest
    simp only [true_iff]
    intro k x live master own
    cases free k x live master own
  | some k =>
    obtain ⟨x, live, master, own, -, oldest'⟩ := s.oldest_some m _ k oldest
    simp only [live, bne_iff_ne]
    refine ⟨fun free j y live' master' own' clash => free ?_, fun all => all k x live master own⟩
    have older := oldest' j y live' master' own' rfl
    bv_omega

theorem State.underLimit_iff (s : State) (p : Master) :
    s.underLimit p = true ↔ s.held p < slotLimit (s.conf p).standing ∧
      ∀ k x, s.slot k = some x → x.master = p → x.orphan = false → s.counter p + 1#8 ≠ x.admission := by
  rw [State.underLimit, Bool.and_eq_true, decide_eq_true_eq, s.serialFree_iff]

theorem slotLimit_live {st : Standing} (live : st ≠ .isolated) : slotLimit st = if st = .active then 4 else 1 := by
  cases st with
  | active | limited => rfl
  | isolated => exact absurd rfl live

theorem State.lowestFree_isSome (s : State) : s.lowestFree.isSome = true ↔ ∃ k, s.slot k = none := by
  rw [Option.isSome_iff_ne_none, Ne, s.lowestFree_none]
  simp

theorem State.ready17_iff (s : State) (p : Master) (r : Request) :
    s.ready17 p = some r ↔
      (s.port p).head = some r ∧ s.resetPin = false ∧ (s.port p).pclr = false ∧ (s.conf p).standing ≠ .isolated ∧
      (∃ k, s.slot k = none) ∧ s.held p < (if (s.conf p).standing = .active then 4 else 1) ∧
      (∀ k x, s.slot k = some x → x.master = p → x.orphan = false → s.counter p + 1#8 ≠ x.admission) ∧
      (r.kind = .write → (s.port p).writeList.length < 4) := by
  unfold State.ready17
  cases head : (s.port p).head with
  | none => simp
  | some r' =>
    by_cases live : (s.conf p).standing = .isolated
    · simp [live]
    · have kinds : (r'.kind == .read || decide ((s.port p).writeList.length < Config.writeListCapacity)) = true ↔
          (r'.kind = .write → (s.port p).writeList.length < 4) := by
        cases r'.kind with
        | read => simp
        | write =>
          have unread : (Kind.write == Kind.read) = false := rfl
          rw [unread, Bool.false_or, decide_eq_true_iff]
          exact ⟨fun room _ => room, fun room => room rfl⟩
      simp only [Option.ite_none_right_eq_some, Bool.and_eq_true, Bool.not_eq_true', bne_iff_ne, s.lowestFree_isSome, s.underLimit_iff,
        kinds, slotLimit_live live, Option.some.injEq]
      constructor
      · rintro ⟨⟨⟨⟨⟨⟨reset, pclr⟩, live⟩, free⟩, limit, serial⟩, room⟩, rfl⟩
        exact ⟨rfl, reset, pclr, live, free, limit, serial, room⟩
      · rintro ⟨rfl, reset, pclr, live, free, limit, serial, room⟩
        exact ⟨⟨⟨⟨⟨⟨reset, pclr⟩, live⟩, free⟩, limit, serial⟩, room⟩, rfl⟩

theorem State.atHead_iff (s : State) (p : Master) : s.atHead p = true ↔ s.waitList = [] ∨ s.waitList.head? = some p := by
  unfold State.atHead
  cases s.waitList with
  | nil => simp
  | cons q l => simp

theorem State.mustJoin_iff (s : State) (p : Master) :
    s.mustJoin p = true ↔
      p ∉ s.waitList ∧ ∃ r, s.ready17 p = some r ∧ (s.freeWords < s.need p r ∨ (s.waitList ≠ [] ∧ s.waitList.head? ≠ some p)) := by
  unfold State.mustJoin
  cases ready : s.ready17 p with
  | none => simp
  | some r =>
    have behind : s.atHead p = false ↔ s.waitList ≠ [] ∧ s.waitList.head? ≠ some p := by
      rw [← Bool.not_eq_true, s.atHead_iff, not_or]
    simp only [State.ready89, Bool.and_eq_true, Bool.not_eq_true', Bool.and_eq_false_iff, decide_eq_false_iff_not, Nat.not_le, behind,
      List.contains_eq_mem, Option.some.injEq, exists_eq_left']
    exact and_comm

/-! ### The joining of the wait list (R26, R30, R31) -/

/-- The ports `joined` have joined the wait list of `s`, one after the other. -/
structure State.Joined (s t : State) (joined : List Master) : Prop where
  waiting : s.sameButWaiting t
  list : t.waitList = s.waitList ++ joined
  nodup : joined.Nodup
  each : ∀ p ∈ joined, p ∉ s.waitList ∧ (s.ready17 p).isSome = true ∧ (t.conf p).waitListed = true
  others : ∀ p, p ∉ joined → t.conf p = s.conf p
  first : ∀ q ∈ joined.head?, s.mustJoin q = true

theorem State.Joined.refl (s : State) : s.Joined s [] := ⟨⟨rfl, fun _ => rfl⟩, by simp, by simp, by simp, fun _ _ => rfl, by simp⟩

/-- Conditions 1 to 7 of R23 do not read the wait list. -/
theorem State.sameButWaiting.ready17 (same : s.sameButWaiting t) (p : Master) : t.ready17 p = s.ready17 p := by
  obtain ⟨frame, conf⟩ := same
  have standing : (t.conf p).standing = (s.conf p).standing := by rw [conf p]
  refine Option.ext fun r => ?_
  rw [State.ready17_iff, State.ready17_iff, standing, frame]
  exact Iff.rfl

theorem State.sameButWaiting.need (same : s.sameButWaiting t) (p : Master) (r : Request) : t.need p r = s.need p r := by
  rw [same.1]
  rfl

theorem State.sameButWaiting.freeWords (same : s.sameButWaiting t) : t.freeWords = s.freeWords := by rw [same.1]

/-- R31: behind a port on the wait list every port that meets conditions 1 to 7 is to join. -/
theorem State.mustJoin_behind (ready : (s.ready17 p).isSome = true) (out : p ∉ s.waitList) (some' : s.waitList ≠ []) : s.mustJoin p = true := by
  obtain ⟨r, ready⟩ := Option.isSome_iff_exists.mp ready
  exact (s.mustJoin_iff p).mpr ⟨out, r, ready, .inr ⟨some', fun head => out (List.mem_of_mem_head? head)⟩⟩

theorem State.Joined.step (h : s.Joined t joined) :
    (t.joinOne = t ∧ ∀ p, t.mustJoin p = false) ∨ ∃ p, s.Joined t.joinOne (joined ++ [p]) := by
  obtain ⟨stays, none'⟩ | ⟨p, d, due, e⟩ := t.joinOne_cases
  · exact .inl ⟨stays, none'⟩
  · refine .inr ⟨p, ?_⟩
    obtain ⟨out, r, ready, unfit⟩ := (t.mustJoin_iff p).mp due
    obtain ⟨outside, unjoined⟩ : p ∉ s.waitList ∧ p ∉ joined := by simpa [h.list] using out
    rw [h.waiting.ready17] at ready
    have conf (n : Master) : t.joinOne.conf n = if n = p then { t.conf p with waitListed := true } else t.conf n := by
      rw [e]
      exact State.setConf_conf _ _ _ _
    refine ⟨⟨?_, fun n => ?_⟩, ?_, ?_, fun n there => ?_, fun n absent => ?_, fun n head => ?_⟩
    · rw [e]
      conv => lhs; rw [h.waiting.1]
      rfl
    · rw [conf]
      by_cases self : n = p
      · subst self
        rw [if_pos rfl, h.others n unjoined]
      · rw [if_neg self]
        exact h.waiting.2 n
    · rw [e]
      show t.waitList ++ [p] = _
      rw [h.list, List.append_assoc]
    · exact List.nodup_append.mpr ⟨h.nodup, List.nodup_singleton p, fun a there b here same => unjoined (by
        rwa [← List.mem_singleton.mp here, ← same])⟩
    · obtain there | there := List.mem_append.mp there
      · obtain ⟨absent, ready', listed⟩ := h.each n there
        refine ⟨absent, ready', ?_⟩
        rw [conf]
        split
        · rfl
        · exact listed
      · obtain rfl := List.mem_singleton.mp there
        exact ⟨outside, by rw [ready]; rfl, by rw [conf, if_pos rfl]⟩
    · rw [List.mem_append, not_or, List.mem_singleton] at absent
      rw [conf, if_neg absent.2, h.others n absent.1]
    · cases joined with
      | nil =>
        obtain rfl : p = n := by simpa using head
        have list : t.waitList = s.waitList := by simpa using h.list
        refine (s.mustJoin_iff p).mpr ⟨outside, r, ready, ?_⟩
        rwa [h.waiting.freeWords, h.waiting.need, list] at unfit
      | cons a l => exact h.first n (by simpa using head)

/-- The joining has come to its end. -/
def State.Settled (s : State) : Prop := s.joinOne = s ∧ ∀ p, s.mustJoin p = false

theorem State.Settled.joinOne (h : s.Settled) : s.joinOne.Settled := by rwa [State.Settled, h.1]

/-- Each joining adds a port, until it has come to its end. -/
theorem State.Joined.grow {n : Nat} (h : s.Joined t joined) (grown : t.Settled ∨ joined.length = n) :
    ∃ joined', s.Joined t.joinOne joined' ∧ (t.joinOne.Settled ∨ joined'.length = n + 1) := by
  have settled (done : t.Settled) : ∃ joined', s.Joined t.joinOne joined' ∧ (t.joinOne.Settled ∨ joined'.length = n + 1) :=
    ⟨joined, by rwa [done.1], .inl done.joinOne⟩
  obtain done | length := grown
  · exact settled done
  · obtain done | ⟨p, more⟩ := h.step
    · exact settled done
    · exact ⟨joined ++ [p], more, .inr (by rw [List.length_append, length, List.length_singleton])⟩

/-- Four joinings suffice, for there are four ports. -/
theorem State.joinWaiters_joined (s : State) : ∃ joined, s.Joined s.joinWaiters joined ∧ ∀ p, s.joinWaiters.mustJoin p = false := by
  obtain ⟨_, first, grown⟩ := (State.Joined.refl s).grow (n := 0) (.inr rfl)
  obtain ⟨_, second, grown⟩ := first.grow grown
  obtain ⟨_, third, grown⟩ := second.grow grown
  obtain ⟨joined, fourth, grown⟩ := third.grow grown
  refine ⟨joined, fourth, fun p => ?_⟩
  obtain done | length := grown
  · exact done.2 p
  · have all : p ∈ joined := by
      have card : joined.toFinset = Finset.univ :=
        Finset.eq_univ_of_card _ (by rw [List.toFinset_card_of_nodup fourth.nodup, length, Fintype.card_fin])
      exact List.mem_toFinset.mp (card ▸ Finset.mem_univ p)
    refine Bool.eq_false_iff.mpr fun due => ((State.mustJoin_iff _ p).mp due).1 ?_
    exact (congrArg (p ∈ ·) fourth.list).mpr <| List.mem_append_right _ all

theorem State.joinWaiters_settled (none' : ∀ p, s.mustJoin p = false) : s.joinWaiters = s := by
  have stays : s.joinOne = s := by
    obtain ⟨stays, -⟩ | ⟨p, _, due, -⟩ := s.joinOne_cases
    · exact stays
    · rw [none' p] at due
      cases due
  rw [State.joinWaiters, stays, stays, stays, stays]

/-- Settles O23: the conditions spelled out, and the ports that have joined when the joining has come to its end. -/
theorem waitersJoinTheList : Obligations.WaitersJoinTheList := by
  refine ⟨fun s p => ⟨fun r => ?_, s.mustJoin_iff p⟩, fun s => ?_⟩
  · rw [s.ready17_iff, s.held_eq]
  · intro t
    obtain ⟨joined, h, done⟩ := s.joinWaiters_joined
    refine ⟨h.waiting, done, joined, h.list, h.nodup, h.each, h.others, h.first, fun some' p ready out => ?_, State.joinWaiters_settled⟩
    by_contra absent
    have due : t.mustJoin p = true := State.mustJoin_behind (by rwa [h.waiting.ready17]) (by simp [t, h.list, out, absent])
      (by simp [t, h.list, some'])
    rw [done p] at due
    cases due

/-! ### Presentation (R21, R41) -/

/-- Settles O24: a free channel takes the request, as head request or waiting. -/
theorem requestsArePresented : Obligations.RequestsArePresented := by
  intro s p r noHead noWaiting
  have presents : exec (.requestPresentation p r) s = if (s.port p).pclr then .next (s.setPort p { s.port p with waiting := some r })
      else .next (s.setPort p { s.port p with head := some r }).joinWaiters := if_neg (by simp [noHead, noWaiting])
  have others (x : Port) : s.samePortsBut (s.setPort p x) p := fun q other => s.setPort_port_ne p x other
  refine ⟨fun released => ⟨_, presents.trans (if_neg (by simp [released])), s.setPort_port_self p _, others _, rfl⟩,
    fun asserted => ⟨_, presents.trans (if_pos asserted), s.setPort_port_self p _, others _, rfl⟩⟩

/-! ### The check of form and the decision (R24, R25) -/

theorem State.tagInUse_iff (s : State) (p : Master) (tag : Tag) :
    s.tagInUse p tag = true ↔ ∃ k x, s.slot k = some x ∧ x.master = p ∧ x.orphan = false ∧ x.tag = tag := by
  simp only [State.tagInUse, List.any_eq_true, mem_allSlots, true_and, State.owns_iff, beq_iff_eq]

theorem State.formCause_eq (s : State) (p : Master) (r : Request) :
    s.formCause p r =
      if ¬(1 ≤ r.beats.val ∧ r.beats.val ≤ 16) then some .beats
      else if ¬r.address.toNat + r.beats.val - 1 ≤ 16777215 then some .range
      else if s.tagInUse p r.tag = true then some .tag else none := by
  have unlawful : (r.beats.val < 1 ∨ 16 < r.beats.val) ↔ ¬(1 ≤ r.beats.val ∧ r.beats.val ≤ 16) := by omega
  have beyond : Config.lastAddress < r.address.toNat + r.beats.val - 1 ↔ ¬r.address.toNat + r.beats.val - 1 ≤ 16777215 :=
    Nat.not_le.symm
  simp only [State.formCause, unlawful, beyond]

theorem State.need_wellFormed (formed : s.formCause p r = none) : s.need p r = r.beats.val := by simp [State.need, formed]

theorem State.need_malformed (malformed : s.formCause p r ≠ none) : s.need p r = 0 := by
  obtain ⟨c, cause⟩ := Option.ne_none_iff_exists'.mp malformed
  simp [State.need, cause]

theorem State.decideRequest_malformed {c : ProtocolCause} (cause : s.formCause p r = some c) : s.decideRequest p r = .protocol c := by
  simp [State.decideRequest, cause]

theorem State.decideRequest_guarded (formed : s.formCause p r = none) (guarded : s.mode = .guarded) : s.decideRequest p r = s.access p r := by
  simp [State.decideRequest, formed, guarded]

theorem State.decideRequest_pass (formed : s.formCause p r = none) (pass : s.mode = .pass) : s.decideRequest p r = .allowed none := by
  simp [State.decideRequest, formed, pass]

/-- Settles O25: the causes by the first line that applies, the decision by the mode. -/
theorem formIsCheckedAndDecided : Obligations.FormIsCheckedAndDecided := by
  refine ⟨fun s p r => ?_, fun s p r => ⟨fun c => State.decideRequest_malformed, State.decideRequest_guarded, State.decideRequest_pass⟩⟩
  intro lawful fits inUse
  have used : s.tagInUse p r.tag = true ↔ inUse := s.tagInUse_iff p r.tag
  have cause : s.formCause p r = if ¬lawful then some .beats else if ¬fits then some .range else
      if s.tagInUse p r.tag = true then some .tag else none := s.formCause_eq p r
  refine ⟨?_, ?_, ?_, ?_, State.need_wellFormed, State.need_malformed⟩ <;> rw [cause] <;>
    by_cases l : lawful <;> by_cases f : fits <;> by_cases u : inUse <;> simp [l, f, u, used]

/-! ### The admission event (R2, R4, R22 to R24, R27) -/

theorem State.lowestFree_eq_some : s.lowestFree = some k ↔ s.slot k = none ∧ ∀ j, j < k → s.slot j ≠ none := by
  refine ⟨State.lowestFree_some, fun ⟨free, lower⟩ => ?_⟩
  cases least : s.lowestFree with
  | none => exact absurd free ((s.lowestFree_none.mp least) k)
  | some j =>
    obtain ⟨free', lower'⟩ := State.lowestFree_some least
    have notBelow : ¬j < k := fun below => lower j below free'
    have notAbove : ¬k < j := fun below => lower' k below free
    exact congrArg some (le_antisymm (not_lt.mp notAbove) (not_lt.mp notBelow))

theorem State.admissible_of (ready : s.ready17 p = some r) (fits : s.need p r ≤ s.freeWords)
    (head : s.waitList = [] ∨ s.waitList.head? = some p) : s.admissible p = some r := by
  have ready89 : s.ready89 p r = true := by simp [State.ready89, fits, (s.atHead_iff p).mpr head]
  simp [State.admissible, ready, ready89]

theorem State.access_not_protocol (c : ProtocolCause) : s.access p r ≠ .protocol c := by
  unfold State.access
  split
  · simp
  · simp only
    split
    · simp
    · split <;> simp

/-- R25: a request is malformed for its form alone. -/
theorem State.decideRequest_protocol {c : ProtocolCause} (decided : s.decideRequest p r = .protocol c) : c = .beats ∨ c = .range ∨ c = .tag := by
  cases cause : s.formCause p r with
  | none =>
    cases mode : s.mode with
    | guarded => exact absurd (State.decideRequest_guarded cause mode ▸ decided) (State.access_not_protocol c)
    | pass => rw [State.decideRequest_pass cause mode] at decided; cases decided
  | some c' =>
    rw [State.decideRequest_malformed cause] at decided
    obtain rfl : c' = c := by simpa using decided
    rw [s.formCause_eq] at cause
    split at cause
    · cases cause; simp
    · split at cause
      · cases cause; simp
      · split at cause <;> cases cause
        simp

theorem State.allocate_port_self (s : State) (p : Master) (k : SlotIx) (r : Request) :
    (s.allocate p k r).port p = { s.port p with head := none, writeList := (s.port p).writeList ++ s.newEntries p k r } := by
  exact State.setPort_port_self _ p _

theorem State.allocate_port_ne (s : State) (k : SlotIx) (r : Request) (other : q ≠ p) : (s.allocate p k r).port q = s.port q :=
  State.setPort_port_ne _ p _ other

theorem State.allocate_conf_self (s : State) (p : Master) (k : SlotIx) (r : Request) :
    (s.allocate p k r).conf p = { s.conf p with waitListed := false } := State.setConf_conf_self _ p _

theorem State.allocate_conf_ne (s : State) (k : SlotIx) (r : Request) (other : q ≠ p) : (s.allocate p k r).conf q = s.conf q :=
  State.setConf_conf_ne _ p _ other

theorem State.allocate_counter (s : State) (p : Master) (k : SlotIx) (r : Request) :
    (s.allocate p k r).counter p = s.counter p + 1#8 ∧ ∀ q, q ≠ p → (s.allocate p k r).counter q = s.counter q := by
  exact ⟨State.setCounter_counter_self _ p _, fun q other => State.setCounter_counter_ne _ p _ other⟩

/-- R24: the record, its entry and its fault, written with the decision. -/
theorem State.newSlot_of_decision {d : Decision} (decided : s.decideRequest p r = d) :
    (s.newSlot p r).outcome = s.admitOutcome r d ∧ (s.newSlot p r).cause = d.cause ∧ (s.newSlot p r).window = d.window ∧
      (s.newSlot p r).words = s.entryWords r d ∧ (s.newSlot p r).address = (if d.keepsAddress then some r.address else none) ∧
      (s.newSlot p r).phase = s.entryPhase r d := by
  subst decided
  exact ⟨rfl, rfl, rfl, rfl, rfl, rfl⟩

/-- Settles O27: the nine conditions make the event due, and its decision gives the record and the fault. -/
theorem admissionAllocatesASlot : Obligations.AdmissionAllocatesASlot := by
  intro s p r k d head reset pclr live free lower limit serial room fits first decided
  have ready : s.ready17 p = some r := (s.ready17_iff p r).mpr ⟨head, reset, pclr, live, ⟨k, free⟩, limit, serial, room⟩
  have event : exec (.admissionEvent p) s = .next ((s.allocate p k r).handOver p r d).joinWaiters := by
    show execAdmissionEvent p s = _
    simp only [execAdmissionEvent, State.admissible_of ready fits first, State.lowestFree_eq_some.mpr ⟨free, lower⟩, decided]
  obtain ⟨outcome, cause, window, words, address, phase⟩ := State.newSlot_of_decision decided.symm
  refine ⟨s.allocate p k r, (s.allocate p k r).handOver p r d, s.newSlot p r, event, (s.allocate_slot p k k r).trans (if_pos rfl),
    fun j other => (s.allocate_slot p k j r).trans (if_neg other), rfl, rfl, rfl, rfl, rfl, rfl, rfl, rfl, rfl, rfl, rfl, ?_, rfl,
    (s.allocate_counter p k r).1, (s.allocate_counter p k r).2, ?_, fun q other => s.allocate_port_ne k r other, ?_,
    s.allocate_conf_self p k r, fun n other => s.allocate_conf_ne k r other, rfl⟩
  · rw [outcome, cause, window, words, address, phase]
    cases d with
    | protocol c =>
      have known := State.decideRequest_protocol decided.symm
      refine ⟨rfl, rfl, rfl, ?_, ?_, ?_, rfl⟩
      · cases kind : r.kind <;> simp [State.entryWords, State.admitOutcome, kind]
      · obtain rfl | rfl | rfl := known <;> rfl
      · obtain rfl | rfl | rfl := known <;> cases kind : r.kind <;>
          simp [State.entryPhase, State.admitOutcome, Decision.keepsAddress, kind]
    | denied i =>
      refine ⟨rfl, rfl, rfl, rfl, ?_, ?_, ?_⟩ <;>
        cases kind : r.kind <;>
          simp [State.entryPhase, State.entryWords, State.admitOutcome, Decision.keepsAddress, State.handOver, accessWeight, kind]
    | unmapped =>
      refine ⟨rfl, rfl, rfl, rfl, ?_, ?_, ?_⟩ <;>
        cases kind : r.kind <;>
          simp [State.entryPhase, State.entryWords, State.admitOutcome, Decision.keepsAddress, State.handOver, accessWeight, kind]
    | allowed w =>
      refine ⟨rfl, rfl, rfl, rfl, fun kind => ?_, fun kind failed => ?_, fun kind sound => ?_⟩
      · simp [State.entryPhase, State.entryWords, State.admitOutcome, Decision.keepsAddress, kind]
      · simp [State.entryPhase, State.entryWords, State.admitOutcome, kind, failed]
      · simp [State.entryPhase, State.entryWords, State.admitOutcome, kind, sound]
  · have entries : s.newEntries p k r =
        if r.kind = .read then [] else if (s.newSlot p r).phase = .filling then [ListEntry.fill k] else [ListEntry.discard] := by
      unfold State.newEntries
      cases kind : r.kind <;> rfl
    rw [s.allocate_port_self, entries]
  · show s.waitList.filter (· != p) = _
    exact List.filter_congr fun q _ => by by_cases same : q = p <;> simp [same]

/-! ### The CUTOFF event (R38) -/

/-- Settles O28: the conditions make the event due. -/
theorem cutoffAnswersWithoutASlot : Obligations.CutoffAnswersWithoutASlot := by
  intro s p r head isolated reset pclr offer room
  have due : s.cutoffDue p = some r := State.cutoffDue_eq_some.mpr ⟨head, isolated, reset, pclr, offer, room⟩
  let u := s.setPort p { s.port p with
    head := none, offer := some (cutoffItem r), writeList := (s.port p).writeList ++ if r.kind = .write then [ListEntry.discard] else [] }
  refine ⟨u.setConf p { s.conf p with count := if (s.conf p).recovery = .quiet then 0 else (s.conf p).count }, ?_,
    s.setPort_port_self p _, fun q other => s.setPort_port_ne p _ other, u.setConf_conf_self p _,
    fun n other => u.setConf_conf_ne p _ other, rfl⟩
  show execCutoffEvent p s = _
  unfold execCutoffEvent
  simp only [due]
  rfl

end

end Sys2Proof.Machine
end

section
/-! SUPPORT. Write data, response delivery, stalls and the port clear (R14 to R18, R33 to R41). -/

namespace Sys2Proof.Machine

section
variable {s t u : State} {m p q : Master} {k : SlotIx} {x : Slot} {rest : List ListEntry} {w : Word} {e : Enables}

/-! ### Write data (R33 to R36) -/

theorem execWriteDataBeat_fill (b : DataBeat) (reset : s.resetPin = false) (pclr : (s.port p).pclr = false)
    (list : (s.port p).writeList = .fill k :: rest) (live : s.slot k = some x) :
    exec (.writeDataBeat p b) s = .next (s.fillBeat p k x rest b).joinWaiters := by
  show execWriteDataBeat p b s = _
  unfold execWriteDataBeat
  simp only [reset, pclr, Bool.or_self, Bool.false_eq_true, if_false, list, live]

theorem execWriteDataBeat_discard (b : DataBeat) (reset : s.resetPin = false) (pclr : (s.port p).pclr = false)
    (list : (s.port p).writeList = .discard :: rest) :
    exec (.writeDataBeat p b) s = .next (if b.last then s.setWriteList p rest else s).joinWaiters := by
  show execWriteDataBeat p b s = _
  unfold execWriteDataBeat
  simp only [reset, pclr, Bool.or_self, Bool.false_eq_true, if_false, list]

theorem State.fillBeat_more {b : DataBeat} (more : x.progress + 1 < x.beats.val) (unmarked : b.last = false) :
    s.fillBeat p k x rest b = s.setSlot k (some (x.takeBeat b)) := by
  rw [x.takeBeat_eq]
  simp [State.fillBeat, x.takeBeat_eq, more, unmarked]

theorem State.fillBeat_last {b : DataBeat} (full : x.progress + 1 = x.beats.val) (marked : b.last = true) :
    s.fillBeat p k x rest b = (s.setSlot k (some (s.finishFilling (x.takeBeat b)))).setWriteList p rest := by
  simp [State.fillBeat, x.takeBeat_eq, full, marked]

theorem State.fillBeat_short {b : DataBeat} (more : x.progress + 1 < x.beats.val) (marked : b.last = true) :
    s.fillBeat p k x rest b =
      ((s.setSlot k (some ((x.takeBeat b).malformed .short))).setWriteList p rest).fault x.master 8
        (.protocol x.master x.tag x.kind .short x.address) := by
  simp [State.fillBeat, x.takeBeat_eq, more, marked]

theorem State.fillBeat_long {b : DataBeat} (full : x.progress + 1 = x.beats.val) (unmarked : b.last = false) :
    s.fillBeat p k x rest b =
      ((s.setSlot k (some ((x.takeBeat b).malformed .long))).setWriteList p (.discard :: rest)).fault x.master 8
        (.protocol x.master x.tag x.kind .long x.address) := by
  simp [State.fillBeat, x.takeBeat_eq, full, unmarked]

theorem State.setSlot_others (s : State) (k : SlotIx) (o : Option Slot) : s.sameSlotsBut (s.setSlot k o) k :=
  fun _ other => s.setSlot_slot_ne k o other

theorem State.setPort_others (s : State) (p : Master) (x : Port) : s.samePortsBut (s.setPort p x) p :=
  fun _ other => s.setPort_port_ne p x other

/-- Settles O29: below the declared count the slot is written, at it the slot leaves FILLING. -/
theorem beatsFillTheirSlot : Obligations.BeatsFillTheirSlot := by
  intro s p k x rest w e reset pclr list live taken
  have takes (last : Bool) : x.takeBeat ⟨w, e, last⟩ = taken := x.takeBeat_eq _
  refine ⟨fun more => ⟨_, execWriteDataBeat_fill _ reset pclr list live, ?_⟩, fun full => ⟨_, execWriteDataBeat_fill _ reset pclr list live, ?_⟩⟩
  · rw [State.fillBeat_more more rfl, takes]
    exact ⟨s.setSlot_slot_self k _, s.setSlot_others k _, rfl⟩
  · rw [State.fillBeat_last full rfl, takes]
    let v := s.setSlot k (some (s.finishFilling taken))
    have written : (v.setWriteList p rest).slot k = some (s.finishFilling taken) := s.setSlot_slot_self k _
    refine ⟨fun decided => ?_, fun allowed sound => ?_, fun allowed failed => ?_, s.setSlot_others k _, v.setPort_port_self p _,
      v.setPort_others p _, rfl⟩ <;> rw [written]
    · obtain ⟨r, outcome⟩ := Option.ne_none_iff_exists'.mp decided
      simp [State.finishFilling, taken, outcome]
    · simp [State.finishFilling, taken, allowed, sound]
    · simp [State.finishFilling, taken, allowed, failed]

/-- Settles O30: SHORT below the declared count, LONG at it, and the beats of a discard entry. -/
theorem wrongBurstsArePROTOCOL : Obligations.WrongBurstsArePROTOCOL := by
  intro s p rest w e reset pclr
  refine ⟨fun k x c last list live wrong => ?_, fun list => ⟨execWriteDataBeat_discard _ reset pclr list,
    _, execWriteDataBeat_discard _ reset pclr list, s.setPort_port_self p _, s.setPort_others p _, rfl⟩⟩
  let v := s.setSlot k (some ((x.takeBeat ⟨w, e, last⟩).malformed c))
  have event : exec (.writeDataBeat p ⟨w, e, last⟩) s =
      .next ((v.setWriteList p (if c = .short then rest else .discard :: rest)).fault x.master 8
        (.protocol x.master x.tag x.kind c x.address)).joinWaiters := by
    rw [execWriteDataBeat_fill _ reset pclr list live]
    obtain ⟨rfl, rfl, more⟩ | ⟨rfl, rfl, full⟩ := wrong
    · rw [State.fillBeat_short more rfl]; rfl
    · rw [State.fillBeat_long full rfl]; rfl
  refine ⟨_, _, event, s.setSlot_slot_self k _, s.setSlot_others k _, ?_, v.setPort_port_self p _, v.setPort_others p _, rfl⟩
  rw [x.takeBeat_eq]
  rfl

/-! ### Stalls (R17, R18, R37) -/

theorem execFillingStall_expired (live : s.slot k = some x) (filling : x.phase = .filling) (expired : x.timer = some 0) :
    exec (.fillingStall k) s = .next (State.fault ((s.freeSlot k).setWriteList x.master
      (((s.freeSlot k).port x.master).writeList.map (ListEntry.unfill k))) x.master 8 (.stall x.master x.tag x.kind .filling)).joinWaiters := by
  show execFillingStall k s = _
  unfold execFillingStall
  simp only [live]
  exact if_pos ⟨filling, expired⟩

theorem execDeliveringStall_expired (live : s.slot k = some x) (delivering : x.phase = .delivering) (expired : x.timer = some 0) :
    exec (.deliveringStall k) s = .next (State.fault ((s.freeSlot k).setPort x.master
      { (s.freeSlot k).port x.master with offer := ((s.freeSlot k).port x.master).offer.map Item.withdraw }) x.master 8
        (.stall x.master x.tag x.kind .delivering)).joinWaiters := by
  show execDeliveringStall k s = _
  unfold execDeliveringStall
  simp only [live]
  exact if_pos ⟨delivering, expired⟩

/-- R6: a freed slot, and nothing beside it but the buffer. -/
theorem State.freeSlot_facts (live : s.slot k = some x) :
    (s.freeSlot k).slot k = none ∧ s.sameSlotsBut (s.freeSlot k) k ∧ (s.freeSlot k).freeWords = s.freeWords + x.reserved := by
  refine ⟨(s.freeSlot_slot k k).trans (if_pos rfl), fun j other => (s.freeSlot_slot k j).trans (if_neg other), ?_⟩
  rw [s.freeSlot_live k x live]

theorem Item.withdraw_fun : Item.withdraw =
    fun i : Item => if i.withdrawn = false ∧ i.status ≠ .cutoff then { i with withdrawn := true, last := true } else i :=
  funext Item.withdraw_eq

/-- Settles O31: the slot is freed, and its entry or its item is taken back. -/
theorem stallsFreeTheSlot : Obligations.StallsFreeTheSlot := by
  intro s k x live expired
  obtain ⟨gone, others, words⟩ := State.freeSlot_facts live
  refine ⟨fun filling => ⟨_, execFillingStall_expired live filling expired, gone, others, words, ?_, ?_, ?_⟩,
    fun delivering => ⟨_, execDeliveringStall_expired live delivering expired, gone, others, words, ?_, ?_, ?_⟩⟩
  · refine (State.setPort_port_self _ _ _).trans ?_
    rw [s.freeSlot_port]
    rfl
  · exact fun q other => (State.setPort_port_ne _ _ _ other).trans (s.freeSlot_port k q)
  · rw [s.freeSlot_live k x live]
    rfl
  · refine (State.setPort_port_self _ _ _).trans ?_
    rw [s.freeSlot_port, Item.withdraw_fun]
  · exact fun q other => (State.setPort_port_ne _ _ _ other).trans (s.freeSlot_port k q)
  · rw [s.freeSlot_live k x live]
    rfl

/-! ### Response delivery (R8, R14 to R16) -/

/-- The slot of the master in DELIVERING, where it is the only one. -/
theorem State.deliveringIx_of (live : s.slot k = some x) (master : x.master = p) (own : x.orphan = false) (phase : x.phase = .delivering)
    (only : ∀ j y, s.slot j = some y → y.master = p → y.orphan = false → y.phase = .delivering → j = k) : s.deliveringIx p = some k := by
  have owned : s.owns p (fun x => x.phase == .delivering) k = true := (s.owns_iff p _ k).mpr ⟨x, live, master, own, beq_iff_eq.mpr phase⟩
  cases found : s.deliveringIx p with
  | none => exact absurd owned (List.find?_eq_none.mp found k (mem_allSlots k))
  | some j =>
    obtain ⟨y, live', master', own', phase'⟩ := State.deliveringIx_eq_some found
    rw [only j y live' master' own' phase']

theorem State.deliveringIx_none (noDelivery : ∀ j y, s.slot j = some y → y.master = p → y.orphan = false → y.phase ≠ .delivering) :
    s.deliveringIx p = none := by
  cases found : s.deliveringIx p with
  | none => rfl
  | some j =>
    obtain ⟨y, live, master, own, phase⟩ := State.deliveringIx_eq_some found
    exact absurd phase (noDelivery j y live master own)

theorem State.offerNext_delivering {r : Result} (delivering : s.deliveringIx p = some k) (live : s.slot k = some x) (outcome : x.outcome = some r) :
    s.offerNext p = s.setPort p { s.port p with offer := some (x.item r x.progress) } := by
  simp only [State.offerNext, delivering, live, outcome, Option.map_some]

theorem State.offerNext_none (idle : s.deliveringIx p = none) : s.offerNext p = s.setPort p { s.port p with offer := none } := by
  simp only [State.offerNext, idle]

/-- R14: the oldest slot of a master, READY with its outcome, may enter DELIVERING. -/
theorem State.deliverable_of {r : Result} (live : s.slot k = some x) (master : x.master = p) (own : x.orphan = false) (ready : x.phase = .ready)
    (outcome : x.outcome = some r)
    (noDelivery : ∀ j y, s.slot j = some y → y.master = p → y.orphan = false → y.phase ≠ .delivering)
    (oldest : ∀ j y, j ≠ k → s.slot j = some y → y.master = p → y.orphan = false →
      (s.counter p - y.admission).toNat < (s.counter p - x.admission).toNat) : s.deliverable p = some (k, x, r) := by
  have first : s.oldest p (fun _ => true) = some k := by
    cases found : s.oldest p fun _ => true with
    | none =>
      have owned := (s.oldest_none p _).mp found k x live master own
      cases owned
    | some j =>
      obtain ⟨y, live', master', own', -, most⟩ := s.oldest_some p _ j found
      by_contra other
      have younger := oldest j y (fun same => other (congrArg some same)) live' master' own'
      have older := most k x live master own rfl
      omega
  unfold State.deliverable
  simp only [State.deliveringIx_none noDelivery, first, live, ready, outcome]
  rfl

/-- R15: an item of a read that is not PROTOCOL, and of every other response. -/
theorem Slot.item_facts (x : Slot) (r : Result) (i : Nat) :
    (x.item r i).tag = x.tag ∧ (x.item r i).status = r.status ∧ (x.item r i).withdrawn = false ∧
    (x.kind = .read → r ≠ .protocol →
      (x.item r i).word = x.words[i]? ∧
      (x.words.length = x.beats.val → ∀ h : i < x.words.length, (x.item r i).word = some x.words[i]) ∧
      (x.item r i).last = decide (x.beats.val ≤ i + 1) ∧
      (x.item r i).corrected = (decide (r = .done) && x.corrected)) ∧
    (x.kind = .write ∨ r = .protocol →
      (x.item r i).word = none ∧ (x.item r i).last = true ∧ (x.item r i).corrected = false) := by
  by_cases carries : x.carriesData r = true
  · have facts : x.kind = .read ∧ r ≠ .protocol := by simpa [Slot.carriesData] using carries
    obtain ⟨kind, lawful⟩ := facts
    have run : x.item r i =
        { tag := x.tag, status := r.status, word := x.words[i]?, last := decide (x.beats.val ≤ i + 1), withdrawn := false,
          corrected := r == .done && x.corrected } := if_pos carries
    rw [run]
    refine ⟨rfl, rfl, rfl, fun _ _ => ⟨rfl, fun _ bound => List.getElem?_eq_getElem bound, rfl, by cases r <;> rfl⟩, fun other => ?_⟩
    simp [kind, lawful] at other
  · have facts : x.kind = .read → r = .protocol := by simpa [Slot.carriesData] using carries
    have single : x.item r i =
        { tag := x.tag, status := r.status, word := none, last := true, withdrawn := false, corrected := false } := if_neg carries
    rw [single]
    exact ⟨rfl, rfl, rfl, fun kind lawful => absurd (facts kind) lawful, fun _ => ⟨rfl, rfl, rfl⟩⟩

/-- Settles O32: the slot enters DELIVERING, and its first item is offered where the channel is free. -/
theorem oldestReadySlotDelivers : Obligations.OldestReadySlotDelivers := by
  refine ⟨fun s p k x r live master own ready outcome noDelivery oldest => ?_, by decide, Slot.item_facts⟩
  let y : Slot := { x with phase := .delivering, progress := 0, timer := some s.time.masterTimeout }
  have event : exec (.enterDelivering p) s =
      if (s.port p).offer.isSome then .next (s.setSlot k (some y)) else .next ((s.setSlot k (some y)).offerNext p) := by
    show execEnterDelivering p s = _
    unfold execEnterDelivering
    simp only [State.deliverable_of live master own ready outcome noDelivery oldest]
    rfl
  have entered : (s.setSlot k (some y)).slot k = some y := s.setSlot_slot_self k _
  have delivering : (s.setSlot k (some y)).deliveringIx p = some k :=
    State.deliveringIx_of entered master own rfl fun j z live' master' own' phase => by
      by_contra other
      rw [s.setSlot_slot_ne k _ other] at live'
      exact noDelivery j z live' master' own' phase
  have offers := State.offerNext_delivering delivering entered outcome
  cases offer : (s.port p).offer with
  | none =>
    rw [offer] at event
    exact ⟨_, event.trans (congrArg Host.Outcome.next offers), entered, s.setSlot_others k _, fun _ => State.setPort_port_self _ p _,
      fun busy => absurd rfl busy, State.setPort_others _ p _, rfl⟩
  | some i =>
    rw [offer] at event
    exact ⟨_, event, entered, s.setSlot_others k _, fun free => absurd free (by simp), fun _ => rfl, fun _ _ => rfl, rfl⟩

theorem execResponseItemTake_strange {i : Item} (offer : (s.port p).offer = some i) (other : i.withdrawn = true ∨ i.status = .cutoff) :
    exec (.responseItemTake p) s = .next (s.offerNext p) := by
  have strange : i.ofSlot = false := by simpa [Item.ofSlot, or_iff_not_imp_left] using other
  show execResponseItemTake p s = _
  simp [execResponseItemTake, offer, strange]

theorem execResponseItemTake_delivering {i : Item} (offer : (s.port p).offer = some i) (shown : i.withdrawn = false)
    (lawful : i.status ≠ .cutoff) (delivering : s.deliveringIx p = some k) (live : s.slot k = some x) :
    exec (.responseItemTake p) s =
      if i.last then .next ((s.freeSlot k).setPort p { s.port p with offer := none }).joinWaiters
      else .next ((s.setSlot k (some { x with progress := x.progress + 1 })).offerNext p) := by
  have part : i.ofSlot = true := by simp [Item.ofSlot, shown, lawful]
  show execResponseItemTake p s = _
  simp [execResponseItemTake, offer, part, delivering, live]

/-- Settles O33: an item of the response in DELIVERING, or one that is none of it. -/
theorem takesMoveTheResponse : Obligations.TakesMoveTheResponse := by
  intro s p i offer
  have strange := execResponseItemTake_strange offer
  refine ⟨fun k x r live master own phase outcome only => ?_, fun noDelivery other => ?_⟩
  · have delivering := State.deliveringIx_of live master own phase only
    have takes (shown : i.withdrawn = false) (lawful : i.status ≠ .cutoff) :=
      execResponseItemTake_delivering offer shown lawful delivering live
    refine ⟨fun shown lawful more => ?_, fun shown lawful final => ?_, fun other => ?_⟩
    · let y : Slot := { x with progress := x.progress + 1 }
      have advanced : (s.setSlot k (some y)).slot k = some y := s.setSlot_slot_self k _
      have still : (s.setSlot k (some y)).deliveringIx p = some k := State.deliveringIx_of advanced master own phase fun j z live' master' own' phase' => by
        by_contra other
        rw [s.setSlot_slot_ne k _ other] at live'
        exact other (only j z live' master' own' phase')
      have event := (takes shown lawful).trans (if_neg (by simp [more]))
      rw [State.offerNext_delivering still advanced outcome] at event
      exact ⟨_, event, advanced, s.setSlot_others k _, State.setPort_port_self _ p _, State.setPort_others _ p _, rfl⟩
    · obtain ⟨gone, others, words⟩ := State.freeSlot_facts live
      refine ⟨_, (takes shown lawful).trans (if_pos final), gone, others, words, State.setPort_port_self _ p _,
        fun q other => (State.setPort_port_ne _ p _ other).trans (s.freeSlot_port k q), ?_⟩
      rw [s.freeSlot_live k x live]
      rfl
    · exact ⟨_, (strange other).trans (congrArg _ (State.offerNext_delivering delivering live outcome)), s.setPort_port_self p _,
        s.setPort_others p _, rfl⟩
  · exact ⟨_, (strange other).trans (congrArg _ (State.offerNext_none (State.deliveringIx_none noDelivery))), s.setPort_port_self p _,
      s.setPort_others p _, rfl⟩

/-! ### Port clear (R10, R40, R41) -/

theorem Port.promote_free {y : Port} (free : y.head = none) (released : y.pclr = false) : y.promote = { y with head := y.waiting, waiting := none } := by
  obtain ⟨head, waiting⟩ := y
  obtain rfl : head = none := free
  cases waiting with
  | none => rfl
  | some r =>
    simp only [Port.promote, Option.isNone_none, Bool.true_and, Bool.not_eq_true']
    exact if_pos released

/-- Settles O34: the port clear slot by slot and port by port, and the edges of PCLR that carry it out and end it. -/
theorem portClearDropsThePortsWork : Obligations.PortClearDropsThePortsWork := by
  refine ⟨fun s p => ?_, fun s p => ⟨fun released running => ?_, fun released reset => ?_, fun asserted running free => ?_, fun asserted reset => ?_⟩⟩
  · intro t ends dropped
    have slots : t.slots = (s.clearPort p).slots := State.hand_slots (s.clearPort p) _
    have ports : t.ports = (s.clearPort p).ports := State.hand_ports (s.clearPort p) _
    have masters : t.masters = (s.clearPort p).masters := State.hand_masters (s.clearPort p) _
    have freeWords : t.freeWords = (s.clearPort p).freeWords := State.hand_freeWords (s.clearPort p) _
    have waitList : t.waitList = (s.clearPort p).waitList := State.hand_waitList (s.clearPort p) _
    have slot (k : SlotIx) : t.slot k = dropOne p (s.slot k) := (State.slot_congr slots k).trans (s.clearPort_slot p k)
    have dropping (k : SlotIx) := dropOne_facts p (s.slot k)
    refine ⟨fun k x live ends => ?_, fun k x live master issued => ?_, fun k x live other => ?_, fun k free => ?_, ?_, ?_,
      fun q other => ?_, waitList.trans ?_, ?_, fun n other => ?_, ?_⟩
    · rw [slot, (dropping k).1 x live ends]
    · rw [slot, (dropping k).2.1 x live master issued]
    · rw [slot, (dropping k).2.2.1 x live other]
    · rw [slot, (dropping k).2.2.2 free]
    · rw [freeWords]
      exact congrArg (s.freeWords + ·) (s.dropWords_eq p)
    · rw [State.port_congr ports, s.clearPort_port_self]
    · rw [State.port_congr ports, s.clearPort_port_ne other]
    · show s.waitList.filter (· != p) = _
      exact List.filter_congr fun q _ => by by_cases same : q = p <;> simp [same]
    · rw [State.conf_congr masters, s.clearPort_conf_self]
    · rw [State.conf_congr masters, s.clearPort_conf_ne other]
    · have count : dropped = s.dropCount p := (s.dropCount_eq p).symm
      rw [slots, ports, masters, freeWords, waitList, count]
      rfl
  · show execPclrAssertion p s = _
    unfold execPclrAssertion
    rw [if_neg (by simp [released]), if_neg (by simp [running])]
  · show execPclrAssertion p s = _
    unfold execPclrAssertion
    rw [if_neg (by simp [released]), if_pos reset]
  · let v := s.setPort p { s.port p with pclr := false }
    have port : v.port p = { s.port p with pclr := false } := s.setPort_port_self p _
    have event : exec (.pclrRelease p) s = .next (v.setPort p (v.port p).promote).joinWaiters := by
      show execPclrRelease p s = _
      unfold execPclrRelease
      rw [if_pos asserted]
      exact if_neg (by simp [running])
    refine ⟨_, event, ?_, fun q other => (v.setPort_port_ne p _ other).trans (s.setPort_port_ne p _ other), rfl⟩
    rw [v.setPort_port_self]
    exact (congrArg Port.promote port).trans (Port.promote_free (y := { s.port p with pclr := false }) free rfl)
  · show execPclrRelease p s = _
    unfold execPclrRelease
    rw [if_pos asserted]
    exact if_pos reset

end

end Sys2Proof.Machine
end

section
/-! SUPPORT. The grant, the items and the timeouts of the memory port, and the memory health block (R103, R104, R114 to R137). -/

namespace Sys2Proof.Machine

section
variable {s t u v : State} {m p q w : Master} {k : SlotIx} {x y : Slot} {b : RecordBody}

/-! ### The transaction at the memory (R3, R104, R114) -/

theorem State.issued_of (live : s.slot k = some x) (phase : x.phase = .issued)
    (only : ∀ j y, s.slot j = some y → y.phase = .issued → j = k) : s.issued = some (k, x) := by
  cases found : s.issuedIx with
  | none =>
    have := List.find?_eq_none.mp found k (mem_allSlots k)
    simp [live, phase] at this
  | some j =>
    have hit := List.find?_some found
    cases live' : s.slot j with
    | none => simp [live'] at hit
    | some y =>
      obtain rfl := only j y live' (by simpa [live'] using hit)
      exact State.issued_eq_some.mpr ⟨found, live⟩

theorem State.issued_none (s : State) : s.issued = none ↔ ∀ k x, s.slot k = some x → x.phase ≠ .issued := by
  constructor
  · intro noIssue k x live phase
    have notFound : s.issuedIx = none := by
      cases found : s.issuedIx with
      | none => rfl
      | some j =>
        have hit := List.find?_some found
        cases live' : s.slot j with
        | none => simp [live'] at hit
        | some y =>
          rw [State.issued_eq_some.mpr ⟨found, live'⟩] at noIssue
          cases noIssue
    have := List.find?_eq_none.mp notFound k (mem_allSlots k)
    simp [live, phase] at this
  · intro noPhase
    cases found : s.issued with
    | none => rfl
    | some kx =>
      obtain ⟨live, phase⟩ := s.issued_some kx.1 kx.2 found
      exact absurd phase (noPhase _ _ live)

/-- Settles O36: the winner's candidate is issued, and the deferral counts follow. -/
theorem grantIssuesTheWinner : Obligations.GrantIssuesTheWinner := by
  intro s w k x idle noIssue winner candidate live
  have event : exec .grant s = .next { (s.issue k x).deferAt w with pointer := w } := by
    show execGrant s = _
    simp only [execGrant, idle, winner, candidate, live]
  have frame := (s.issue k x).deferAt_frame w
  have slot (j : SlotIx) : ((s.issue k x).deferAt w).slot j = (s.issue k x).slot j := by
    rw [frame]
    rfl
  have issuedNow : ((s.issue k x).deferAt w).issued = some (k, { x with phase := .issued }) := by
    refine State.issued_of ((slot k).trans (s.setSlot_slot_self k _)) rfl fun j y live' phase => ?_
    by_contra other
    rw [slot] at live'
    exact (s.countPhase_eq_zero .issued).mp noIssue j y ((s.setSlot_slot_ne k _ other).symm.trans live') phase
  have conf (m : Master) : ((s.issue k x).deferAt w).conf m = (s.conf m).deferredAt s.deferral w m := (s.issue k x).deferAt_conf w m
  have port : ((s.issue k x).deferAt w).mem = (s.issue k x).mem := by rw [frame]
  refine ⟨_, event, (slot k).trans (s.setSlot_slot_self k _), fun j other => (slot j).trans (s.setSlot_slot_ne k _ other), port, ?_, rfl,
    (conf w).trans ?_, fun m other => (conf m).trans ?_, ?_⟩
  · show (if ((s.issue k x).deferAt w).mem.issueOffered then _ else _) = _
    rw [port]
    exact congrArg (Option.map fun kx : SlotIx × Slot => (kx.2.kind, kx.2.address, kx.2.beats)) issuedNow
  · simp [Confinement.deferredAt]
  · simp [Confinement.deferredAt, other]
  · obtain ⟨masters, frame⟩ : ∃ masters, (s.issue k x).deferAt w = { s.issue k x with masters := masters } := ⟨_, frame⟩
    rw [frame]
    rfl

/-- R114: the write data on offer. -/
theorem State.writeDataLines_eq (busy : s.mem.state = .busy) (issued : s.issued = some (k, x)) (write : x.kind = .write) :
    s.writeDataLines = if s.mem.taken < x.beats.val then
      some (x.words[s.mem.taken]?, x.enables[s.mem.taken]?, decide (s.mem.taken + 1 = x.beats.val)) else none := by
  have offers : s.offersWriteData = decide (s.mem.taken < x.beats.val) := by simp [State.offersWriteData, busy, issued, write]
  by_cases more : s.mem.taken < x.beats.val
  · have final : decide (x.beats.val ≤ s.mem.taken + 1) = decide (s.mem.taken + 1 = x.beats.val) := decide_eq_decide.mpr (by omega)
    simp [State.writeDataLines, offers, more, issued, final]
  · simp [State.writeDataLines, offers, more]

/-- Settles O37: the lines to the memory read the ISSUED slot and the count of beats taken. -/
theorem memoryTakesIssueAndData : Obligations.MemoryTakesIssueAndData := by
  intro s
  refine ⟨s.issued_some, s.issued_none, fun taken => by simp [State.issueLines, taken], fun _ => rfl, fun k x busy issued write more => ?_⟩
  have offers : s.offersWriteData = true := by simp [State.offersWriteData, busy, issued, write, more]
  let t : State := { s with mem := { s.mem with taken := s.mem.taken + 1 } }
  have lines' := State.writeDataLines_eq (s := t) busy issued write
  exact ⟨(State.writeDataLines_eq busy issued write).trans (if_pos more), t, if_pos offers, rfl, fun next => lines'.trans (if_pos next),
    fun last => lines'.trans (if_neg (show ¬s.mem.taken + 1 < x.beats.val by omega))⟩

/-! ### Items from the memory (R116 to R120, R124, R130) -/

theorem State.readBeatArrives_more (busy : s.mem.state = .busy) (issued : s.issued = some (k, x)) (read : x.kind = .read) (word : Word)
    (status : BitVec 2) : s.readBeatArrives word status false = s.storeBeat k x word status := by
  simp only [State.readBeatArrives, busy, issued, read, Bool.false_eq_true, if_false]

theorem State.readBeatArrives_last (busy : s.mem.state = .busy) (issued : s.issued = some (k, x)) (read : x.kind = .read) (word : Word)
    (status : BitVec 2) (stored : (s.storeBeat k x word status).slot k = some y) :
    s.readBeatArrives word status true = (s.storeBeat k x word status).completeRead k y := by
  simp only [State.readBeatArrives, busy, issued, read, if_true, stored]

theorem badStatus_eq (status : BitVec 2) : badStatus status = decide (2 ≤ status.toNat) := by
  revert status
  decide

/-- R117, R119: the reservation of a read at its completion. -/
def State.endedRead (u : State) (y : Slot) (fill : Word) : Slot :=
  { y with words := y.words ++ List.replicate (y.beats.val - u.mem.received) fill }

theorem State.completeRead_bad (read : y.kind = .read) (bad : u.mem.sawBad = true ∨ 0 < y.beats.val - u.mem.received) :
    u.completeRead k y = u.completion k (u.endedRead y u.fill) .memfault u.mem.sawCorrected .faulted
      fun n => some (.memoryFault y.master y.tag .read y.address y.orphan .bad n) := by
  have bad' : (u.mem.sawBad || decide (0 < y.beats.val - u.mem.received)) = true := by simpa using bad
  have record (c : Bool) : readRecord (u.endedRead y u.fill) true c =
      fun n => some (.memoryFault y.master y.tag .read y.address y.orphan .bad n) := funext fun n => by
    simp [readRecord, State.endedRead, read]
  rw [← record u.mem.sawCorrected]
  simp only [State.completeRead, bad', if_true]
  rfl

theorem State.completeRead_good (good : u.mem.sawBad = false) (whole : y.beats.val - u.mem.received = 0) :
    u.completeRead k y = u.completion k (u.endedRead y u.fill) .done u.mem.sawCorrected
      (if u.mem.sawCorrected then .corrected else .clean)
      fun n => if u.mem.sawCorrected then some (.memoryCorrected y.master y.tag y.address y.orphan n) else none := by
  have good' : (u.mem.sawBad || decide (0 < y.beats.val - u.mem.received)) = false := by simp [good, whole]
  have record : readRecord (u.endedRead y u.fill) false u.mem.sawCorrected =
      fun n => if u.mem.sawCorrected then some (.memoryCorrected y.master y.tag y.address y.orphan n) else none := funext fun n => by
    simp [readRecord, State.endedRead]
  rw [← record]
  simp only [State.completeRead, good', Bool.false_eq_true, if_false]
  rfl

/-- Settles O38: the beat stored, and the completion by what the beat account then holds. -/
theorem readBeatsFillAndComplete : Obligations.ReadBeatsFillAndComplete := by
  intro s k x word status busy issued read
  obtain ⟨live, -⟩ := s.issued_some k x issued
  have more : exec (.readBeat word status false) s = .next (s.storeBeat k x word status) :=
    congrArg Host.Outcome.next (State.readBeatArrives_more busy issued read word status)
  have last {y : Slot} (held : (s.storeBeat k x word status).slot k = some y) :
      exec (.readBeat word status true) s = .next ((s.storeBeat k x word status).completeRead k y) :=
    congrArg Host.Outcome.next (State.readBeatArrives_last busy issued read word status held)
  have completes {u : State} {y : Slot} (kind : y.kind = .read) :
      (u.mem.sawBad = true ∨ 0 < y.beats.val - u.mem.received →
        u.completeRead k y = u.completion k (u.endedRead y u.fill) .memfault u.mem.sawCorrected .faulted
          fun n => some (.memoryFault y.master y.tag .read y.address y.orphan .bad n)) ∧
      (u.mem.sawBad = false → y.beats.val - u.mem.received = 0 → u.mem.sawCorrected = true →
        u.completeRead k y = u.completion k (u.endedRead y u.fill) .done true .corrected
          fun n => some (.memoryCorrected y.master y.tag y.address y.orphan n)) ∧
      (u.mem.sawBad = false → y.beats.val - u.mem.received = 0 → u.mem.sawCorrected = false →
        u.completeRead k y = u.completion k (u.endedRead y u.fill) .done false .clean fun _ => none) :=
    ⟨State.completeRead_bad kind, fun good whole corrected => by rw [State.completeRead_good good whole, corrected]; rfl,
      fun good whole clean => by rw [State.completeRead_good good whole, clean]; rfl⟩
  obtain ⟨full, e⟩ | ⟨room, e⟩ := s.storeBeat_cases k x word status
  · rw [e] at more last
    obtain ⟨bad, corrected, clean⟩ := completes (u := s) read
    refine ⟨s, x, more, live, fun room => absurd full (Nat.not_le.mpr room), fun _ => rfl, fun words bound => ⟨words, bound, ?_⟩,
      fun h => (last live).trans (congrArg _ (bad h)), fun g w c => (last live).trans (congrArg _ (corrected g w c)),
      fun g w c => (last live).trans (congrArg _ (clean g w c))⟩
    simp [words]
    omega
  · let y : Slot := { x with words := x.words ++ [word], progress := s.mem.received + 1 }
    have held : (s.storeBeat k x word status).slot k = some y := by
      rw [e]
      exact s.setSlot_slot_self k _
    have ends := last held
    rw [e] at more ends
    obtain ⟨bad, corrected, clean⟩ := completes (u := _) (y := y) read
    refine ⟨_, y, more, s.setSlot_slot_self k _, fun _ => ⟨rfl, s.setSlot_others k _, ?_, rfl⟩,
      fun full => absurd full (Nat.not_le.mpr room), fun words bound => ⟨?_, room, ?_⟩,
      fun h => ends.trans (congrArg _ (bad h)), fun g w c => ends.trans (congrArg _ (corrected g w c)),
      fun g w c => ends.trans (congrArg _ (clean g w c))⟩
    · rw [badStatus_eq]
      rfl
    · simp [y, words]
    · show (x.words ++ [word] ++ List.replicate (x.beats.val - (s.mem.received + 1)) s.fill).length = _
      simp [words]
      omega

theorem State.writeAckArrives_write (busy : s.mem.state = .busy) (issued : s.issued = some (k, x)) (write : x.kind = .write) (ok : Bool) :
    s.writeAckArrives ok =
      s.completion k x (if !ok || decide (s.mem.taken < x.beats.val) then .memfault else .done) false
        (if !ok || decide (s.mem.taken < x.beats.val) then .faulted else .clean)
        (writeRecord x (!ok || decide (s.mem.taken < x.beats.val))) := by
  simp only [State.writeAckArrives, busy, issued, write]

/-- Settles O39: the early acknowledge counts as a FAIL. -/
theorem acknowledgeCompletesTheWrite : Obligations.AcknowledgeCompletesTheWrite := by
  intro s k x busy issued write
  have arrives (ok : Bool) : exec (.writeAcknowledge ok) s = .next (s.writeAckArrives ok) := rfl
  refine ⟨fun taken => ?_, fun ok early => ?_⟩
  · have clean : (!true || decide (s.mem.taken < x.beats.val)) = false := by simp; omega
    rw [arrives, State.writeAckArrives_write busy issued write, clean]
    rfl
  · have fails : (!ok || decide (s.mem.taken < x.beats.val)) = true := by simpa using early
    have record : writeRecord x true = fun n => some (.memoryFault x.master x.tag .write x.address x.orphan .writeFail n) :=
      funext fun n => by simp [writeRecord, write]
    rw [arrives, State.writeAckArrives_write busy issued write, fails, record]
    rfl

/-- Settles O44: the states and the kinds in which an item has no place. -/
theorem unexpectedItemsAreDiscarded : Obligations.UnexpectedItemsAreDiscarded := by
  intro s word status last ok
  refine ⟨fun notBusy => ?_, fun notDraining => ?_, fun k x busy issued => ⟨fun write => ?_, fun read => ?_⟩⟩
  · constructor
    · refine congrArg Host.Outcome.next ?_
      unfold State.readBeatArrives
      split
      · rename_i busy _; exact absurd busy notBusy
      · rfl
    · refine congrArg Host.Outcome.next ?_
      unfold State.writeAckArrives
      split
      · rename_i busy _; exact absurd busy notBusy
      · rfl
  · show execAbortAcknowledge s = _
    unfold execAbortAcknowledge
    split
    · rename_i draining; exact absurd draining notDraining
    all_goals rfl
  · refine congrArg Host.Outcome.next ?_
    simp only [State.readBeatArrives, busy, issued, write]
  · refine congrArg Host.Outcome.next ?_
    simp only [State.writeAckArrives, busy, issued, read]

/-! ### The memory health block (R133 to R137) -/

theorem classScore_eq (c : HealthClass) (score : Nat) :
    classScore c score = match c with
      | .clean => score - 1
      | .corrected => min 255 (score + 1)
      | .faulted => min 255 (score + 16)
      | .timeout => min 255 (score + 32) := by
  cases c <;> rfl

/-- R137: what the failure of the memory does to the slots. -/
theorem failOne_eq (fill : Word) (o : Option Slot) :
    failOne fill o = o.map fun x =>
      if x.phase = .queued then
        { x with phase := .ready, outcome := some .memfault
                 words := if x.kind = .read then List.replicate x.reserved fill else x.words }
      else x := rfl

/-- Settles O41: the score by its class, the standing by the table of R135, and what a change of standing brings. -/
theorem memoryScoreFollowsTheClass : Obligations.MemoryScoreFollowsTheClass := by
  intro s c record n new v score toFailed soundToDoubtful soundStays doubtfulStays doubtfulToSound failedStays value
  have scored : classScore c s.health.score = n := by
    rw [score]
    cases c <;> rfl
  have standing : memStandingAfter s.health.standing n = new := by
    cases old : s.health.standing with
    | sound =>
      show (if 192 ≤ n then MemStanding.failed else if 96 ≤ n then .doubtful else .sound) = new
      split
      · exact (toFailed (by simp [old]) (by assumption)).symm
      · split
        · exact (soundToDoubtful old (by assumption) (by omega)).symm
        · exact (soundStays old (by omega)).symm
    | doubtful =>
      show (if 192 ≤ n then MemStanding.failed else if n ≤ 63 then .sound else .doubtful) = new
      split
      · exact (toFailed (by simp [old]) (by assumption)).symm
      · split
        · exact (doubtfulToSound old (by omega)).symm
        · exact (doubtfulStays old (by omega) (by omega)).symm
    | failed => exact (failedStays old).symm
  have after : s.health.after c = ⟨n, new⟩ := by rw [Health.after, scored, standing]
  have recorded : v = State.handSome { s with health := ⟨n, new⟩ } (record n) := by
    rw [value, s.handSome_withHealth]
    cases record n <;> rfl
  have event := s.scoreMemory_eq c record
  simp only [after] at event
  rw [event]
  refine ⟨fun same => ?_, fun changed sound => ?_, fun changed failed => ?_⟩
  · rw [if_pos same, recorded, State.assess_of_no_failure fun failed => same ▸ failed]
  · rw [if_neg changed, recorded, State.assess_of_no_failure fun failed => absurd failed sound]
  · subst failed
    have fails : (s.assess ⟨n, .failed⟩).handSome (record n) = v.failQueued := by
      rw [recorded, State.failQueued_handSome, State.assess_of_failure rfl fun before => changed before.symm]
    rw [if_neg changed, fails, ← State.failQueued_hand]
    refine ⟨_, rfl, rfl, fun k => ?_⟩
    have slot : v.slot k = s.slot k := by rw [recorded, s.handSome_withHealth]; cases record n <;> simp [State.handSome, State.slot]
    have fill : v.fill = s.fill := by rw [recorded, s.handSome_withHealth]; cases record n <;> simp [State.handSome]
    refine (State.failQueued_slot _ k).trans ?_
    rw [State.hand_slot, State.hand_fill, slot, fill, failOne_eq]

/-! ### The completion event and the timeouts (R121 to R126) -/

theorem State.scoreMemory_mem_time (s : State) (c : HealthClass) (record : Nat → Option RecordBody) :
    (s.scoreMemory c record).mem = s.mem ∧ (s.scoreMemory c record).time = s.time := by
  have recorded (r : Option RecordBody) (h : Health) : ((s.assess h).handSome r).mem = s.mem ∧ ((s.assess h).handSome r).time = s.time := by
    rw [s.assess_frame]
    cases r <;> simp [State.handSome]
  rw [s.scoreMemory_eq]
  simp only
  split
  · exact recorded _ _
  · exact ⟨(State.hand_mem _ _).trans (recorded _ _).1, (State.hand_time _ _).trans (recorded _ _).2⟩

/-- R86, R121 step 1, R123 step 1: the ISSUED slot ends with the record `y`, or is freed where it is an orphan. -/
theorem State.endSlot_facts {z : Slot} (live : s.slot k = some y) (reserved : y.reserved = x.reserved) {u : State}
    (ends : u = if x.orphan then s.freeSlot k else s.setSlot k (some z)) :
    (x.orphan = true → u.slot k = none ∧ u.freeWords = s.freeWords + x.reserved) ∧
      (x.orphan = false → u.slot k = some z ∧ u.freeWords = s.freeWords) ∧
      s.sameSlotsBut u k ∧ u = { s with slots := u.slots, freeWords := u.freeWords } := by
  cases orphan : x.orphan with
  | true =>
    rw [orphan, if_pos rfl] at ends
    obtain ⟨gone, others, words⟩ := State.freeSlot_facts live
    subst ends
    exact ⟨fun _ => ⟨gone, by rw [words, reserved]⟩, fun h => absurd h (by simp), others, s.freeSlot_frame k⟩
  | false =>
    rw [orphan, if_neg (by simp)] at ends
    subst ends
    exact ⟨fun h => absurd h (by simp), fun _ => ⟨s.setSlot_slot_self k _, rfl⟩, s.setSlot_others k _, rfl⟩

/-- Settles O40: the four steps. -/
theorem completionTakesItsSteps : Obligations.CompletionTakesItsSteps := by
  intro s k x y r corrected c record live reserved
  let v := (s.endSlot k x r corrected).scoreMemory c record
  let w := if r = .done ∧ x.orphan = false then (v.cleanCompletion x.master).witness else v
  have completes : s.completion k x r corrected c record = w.leaveBusy.joinWaiters := rfl
  obtain ⟨freed, ready, others, frame⟩ := State.endSlot_facts live reserved (u := s.endSlot k x r corrected) rfl
  refine ⟨_, v, w, freed, ready, others, frame, rfl, fun done own => if_pos ⟨done, own⟩, fun other => if_neg fun h => ?_,
    fun failed => ?_, fun sound hold => ?_, fun sound noHold => ?_⟩
  · obtain notDone | orphan := other
    · exact notDone h.1
    · rw [orphan] at h; cases h.2
  all_goals rw [completes, State.leaveBusy]
  · rw [if_pos failed]
  · rw [if_neg sound, if_pos hold]
  · rw [if_neg sound, if_neg (by simp [noHold])]

/-- Settles O42: the slot, the score, and the port that begins the abort. -/
theorem memoryTimeoutAborts : Obligations.MemoryTimeoutAborts := by
  intro s k x busy expired issued
  obtain ⟨live, -⟩ := s.issued_some k x issued
  let u := s.timeoutSlot k x
  let v := u.scoreMemory .timeout fun n => some (.memoryTimeout x.master x.tag x.kind x.address x.orphan n)
  have event : exec .memoryTimeout s = .next v.timeoutPort.joinWaiters := by
    show execMemoryTimeout s = _
    simp only [execMemoryTimeout, busy, expired, issued]
    rfl
  obtain ⟨freed, ready, others, frame⟩ := State.endSlot_facts live rfl (u := u) rfl
  obtain ⟨mem, time⟩ := u.scoreMemory_mem_time .timeout fun n => some (.memoryTimeout x.master x.tag x.kind x.address x.orphan n)
  have mem : v.mem = s.mem := mem.trans (by rw [frame])
  have time : v.time = s.time := time.trans (by rw [frame])
  refine ⟨u, v, freed, ready, others, frame, rfl, fun failed => ?_, fun sound => ?_⟩ <;> rw [event, State.timeoutPort]
  · rw [if_pos failed]
  · rw [if_neg sound, mem, time]

/-- Settles O43: the acknowledge and the expiry of the abort timer. -/
theorem abortEnds : Obligations.AbortEnds := by
  intro s draining
  refine ⟨fun hold => ?_, fun noHold => ?_, fun expired => ?_⟩
  · show execAbortAcknowledge s = _
    simp only [execAbortAcknowledge, draining, hold, if_true]
  · show execAbortAcknowledge s = _
    simp only [execAbortAcknowledge, draining, noHold, Bool.false_eq_true, if_false]
  · let u : State := { s with mem := { MemPort.fresh with state := .failed, abort := true }, health := ⟨255, .failed⟩ }
    have event : exec .abortTimeout s = .next (u.memStandingChanged s.health.standing .abortTimeout) := by
      show execAbortTimeout s = _
      simp only [execAbortTimeout, draining, expired]
      rfl
    have changed : u.memStandingChanged s.health.standing .abortTimeout =
        (u.failQueued.hand (.memoryStanding s.health.standing .failed .abortTimeout 255)).raiseMemory := u.memStandingChanged_eq _ _
    refine ⟨_, event.trans (congrArg _ changed), ?_, State.hand_health _ _, State.hand_mem _ _, fun k => (State.hand_slot _ _ k).trans ?_⟩
    · rw [State.hand_reads s u.failQueued _ rfl rfl, s.hand_frame]
      rfl
    · exact u.failQueued_slot k

end

end Sys2Proof.Machine
end

section
/-! SUPPORT. The timebase and the recoveries by count (R89, R90, R92, R95, R147, R148, R152). -/

namespace Sys2Proof.Machine

open Relation

section
variable {s t u v : State} {m n p q : Master} {k : SlotIx} {x y : Slot} {first : Option Master} {order : List Master}

/-! ### The counts of a tick (R89, R95, R148) -/

/-- R148: the timers of a tick, before its counts. -/
def State.afterTimers (s : State) : State :=
  { s with
    time := { s.time with count := 0 }
    slots := mapBank tickSlot s.slots
    mem := { s.mem with timer := s.mem.timer.map (· - 1) } }

theorem State.giveTick_eq (s : State) (first : Option Master) : s.giveTick first = (s.afterTimers.countQuiet first).recoverQuiet := rfl

/-- R95: the next tick reaches the recovery, and a CUTOFF event is due. -/
theorem State.meetsCutoff_iff (released : s.resetPin = false) :
    s.meetsCutoff m = true ↔
      ((s.conf m).standing = .isolated ∧ (s.conf m).recovery = .quiet ∧ 255 ≤ (s.conf m).count) ∧
        ∃ r, (s.port m).head = some r ∧ (s.port m).pclr = false ∧ (s.port m).offer = none ∧
          (r.kind = .write → (s.port m).writeList.length < 4) := by
  have recovering : (s.conf m).recovering .quiet = true ↔ (s.conf m).standing = .isolated ∧ (s.conf m).recovery = .quiet := by
    simp [Confinement.recovering]
  have target : Config.quietTarget ≤ (s.conf m).count + 1 ↔ 255 ≤ (s.conf m).count := Nat.succ_le_succ_iff
  simp only [State.meetsCutoff, Bool.and_eq_true, decide_eq_true_eq, recovering, target, Option.isSome_iff_exists,
    State.cutoffDue_eq_some, released, true_and]
  constructor
  · rintro ⟨⟨⟨isolated, quiet⟩, r, head, -, pclr, offer, room⟩, reached⟩
    exact ⟨⟨isolated, quiet, reached⟩, r, head, pclr, offer, room⟩
  · rintro ⟨⟨isolated, quiet, reached⟩, r, head, pclr, offer, room⟩
    exact ⟨⟨⟨isolated, quiet⟩, r, head, isolated, pclr, offer, room⟩, reached⟩

theorem State.meetsCutoff_head (noHead : (s.port m).head = none) : s.meetsCutoff m = false := by
  have notDue : s.cutoffDue m = none := by simp [State.cutoffDue, noHead]
  simp [State.meetsCutoff, notDue]

theorem quietCount_conf (silent : Bool) (c : Confinement) :
    quietCount silent c = { c with count := if c.standing = .isolated ∧ c.recovery = .quiet then (if silent then c.count + 1 else 0) else c.count } := by
  unfold quietCount
  by_cases counted : c.standing = .isolated ∧ c.recovery = .quiet
  · have recovering : c.recovering .quiet = true := by simpa [Confinement.recovering] using counted
    rw [if_pos recovering, if_pos counted]
  · have recovering : ¬c.recovering .quiet = true := by simpa [Confinement.recovering] using counted
    rw [if_neg recovering, if_neg counted]

/-- R89, R95: a tick counts the masters that `silent` names, which the head request decides unless the tick meets a CUTOFF event. -/
theorem State.tick_counts (s : State) (first : Option Master) :
    ∃ (u : State) (d : Nat) (silent : Master → Bool),
      s.afterTimers.countQuiet first = { u with draws := d } ∧ u = { s.afterTimers with masters := u.masters } ∧
      (∀ n, u.conf n = quietCount (silent n) (s.conf n)) ∧ (∀ n, s.meetsCutoff n = false → silent n = (s.port n).head.isNone) ∧
      (∀ n, s.meetsCutoff n = true → first = some n → silent n = true) ∧
      ((∀ n, s.meetsCutoff n = true → first = some n) → d = s.draws) := by
  obtain ⟨silent, counts, headed, met, -, draws, frame⟩ := State.countOne_fold first allMasters (by decide) s.afterTimers
  rw [State.countQuiet]
  generalize allMasters.foldl (State.countOne first) s.afterTimers = c at counts draws frame
  exact ⟨{ s.afterTimers with masters := c.masters }, c.draws, silent, frame, rfl, fun n => counts n (mem_allMasters n),
    fun n => headed n (mem_allMasters n), fun n => met n (mem_allMasters n), fun all => draws fun n _ => all n⟩

/-- R89: the masters that a tick recovers. -/
theorem State.tick_due {silent : Master → Bool} (d : Nat) (counts : ∀ n, u.conf n = quietCount (silent n) (s.conf n)) (n : Master) :
    n ∈ State.recovered { u with draws := d } .quiet 256 ↔
      ((s.conf n).standing = .isolated ∧ (s.conf n).recovery = .quiet ∧ 255 ≤ (s.conf n).count) ∧ silent n = true := by
  have conf : State.conf { u with draws := d } n = quietCount (silent n) (s.conf n) := counts n
  rw [State.mem_recovered, conf, quietCount_conf]
  simp only
  constructor
  · rintro ⟨isolated, quiet, reached⟩
    rw [if_pos ⟨isolated, quiet⟩] at reached
    cases counted : silent n with
    | false => rw [counted] at reached; simp at reached
    | true =>
      rw [counted, if_pos rfl] at reached
      exact ⟨⟨isolated, quiet, by omega⟩, rfl⟩
  · rintro ⟨⟨isolated, quiet, reached⟩, counted⟩
    rw [if_pos ⟨isolated, quiet⟩, counted, if_pos rfl]
    exact ⟨isolated, quiet, by omega⟩

theorem State.recovered_nil {mode : RecoveryMode} {target : Nat} (none' : ∀ n, n ∉ s.recovered mode target) : s.recovered mode target = [] :=
  List.eq_nil_iff_forall_not_mem.mpr none'

/-- R148: the timers and the divider after a tick. -/
theorem State.afterTimers_slot (s : State) (k : SlotIx) :
    s.afterTimers.slot k = (s.slot k).map fun x => { x with timer := x.timer.map (· - 1) } := s.mapBank_slot tickSlot k

theorem execTick_released (released : s.resetPin = false) : exec .tick s = .next (s.giveTick none) := if_neg (by simp [released])

theorem execTclkEdge_released (released : s.resetPin = false) : exec .tclkEdge s = .next s.tclkEdge := if_neg (by simp [released])

/-- Settles O45: the timers, the divider and the counts of a tick that recovers no master, and the edges between the ticks. -/
theorem ticksCountDown : Obligations.TicksCountDown := by
  intro s
  refine ⟨fun reset => ⟨if_pos reset, if_pos reset⟩, fun released quiet => ?_, fun released within => ?_, fun released completes => ?_⟩
  · obtain ⟨u, d, silent, counted, frame, counts, headed, -, draws⟩ := s.tick_counts none
    have noMeeting (n : Master) : s.meetsCutoff n = false := Bool.eq_false_iff.mpr fun meets => by
      obtain ⟨⟨isolated, mode, reached⟩, r, head, pclr, offer, room⟩ := (State.meetsCutoff_iff released).mp meets
      obtain ⟨r', head', busy⟩ := quiet n isolated mode reached
      obtain rfl := Option.some.inj (head.symm.trans head')
      obtain asserted | offered | ⟨write, full⟩ := busy
      · simp [pclr] at asserted
      · exact offered offer
      · exact absurd (room write) (Nat.not_lt.mpr full)
    have noneDue : State.recovered { u with draws := d } .quiet 256 = [] := State.recovered_nil fun n due => by
      obtain ⟨⟨isolated, mode, reached⟩, counted⟩ := (State.tick_due d counts n).mp due
      obtain ⟨r, head, -⟩ := quiet n isolated mode reached
      rw [headed n (noMeeting n), head] at counted
      cases counted
    have drawsKept : d = s.draws := draws fun n meets => absurd meets (by simp [noMeeting n])
    have event : exec .tick s = .next u := by
      rw [execTick_released released, s.giveTick_eq, counted, State.recoverQuiet_eq, if_pos noneDue, drawsKept, frame]
      rfl
    refine ⟨u, event, fun k => ?_, by rw [frame]; rfl, by rw [frame]; rfl, fun n => ?_, ?_⟩
    · rw [frame]
      exact s.afterTimers_slot k
    · rw [counts n, quietCount_conf, headed n (noMeeting n)]
      cases (s.port n).head <;> simp
    · rw [frame]
      rfl
  · obtain ⟨-, e⟩ | ⟨completes, -⟩ := s.tclkEdge_cases
    · rw [execTclkEdge_released released, e]
    · omega
  · obtain ⟨within, -⟩ | ⟨-, e⟩ := s.tclkEdge_cases
    · omega
    · rw [execTclkEdge_released released, execTick_released released, e]

/-! ### The recoveries of a tick (R89, R92, R95) -/

/-- R92: the ports of several masters that recover. -/
theorem State.recoverAll_port (cause : StandingCause) (order : List Master) (s : State) (n : Master) :
    (order.foldl (fun s m => s.recover m cause) s).port n = if n ∈ order then { s.port n with cut := false } else s.port n := by
  induction order generalizing s with
  | nil => rfl
  | cons m order ih =>
    obtain ⟨-, -, port, ports⟩ := s.recover_conf_port m cause
    rw [List.foldl_cons, ih]
    by_cases self : n = m
    · subst self
      rw [port]
      simp
    · simp [self, ports n self]

theorem State.joinWaiters_port (s : State) (p : Master) : s.joinWaiters.port p = s.port p := by
  obtain ⟨_, h, -⟩ := s.joinWaiters_joined
  rw [h.waiting.1]
  rfl

/-- R89: with no head request at its port, a master's count does not depend on which master the tick is taken first for. -/
theorem State.countQuiet_first (noHead : (s.port m).head = none) : s.countQuiet (some m) = s.countQuiet none := by
  have fold (l : List Master) (s : State) (noHead : (s.port m).head = none) :
      l.foldl (State.countOne (some m)) s = l.foldl (State.countOne none) s := by
    induction l generalizing s with
    | nil => rfl
    | cons a l ih =>
      have same : s.countOne (some m) a = s.countOne none a := by
        by_cases self : m = a
        · subst self
          simp [State.countOne, State.meetsCutoff_head noHead]
        · simp [State.countOne, self]
      have port : (s.countOne none a).port m = s.port m := by
        rw [State.countOne_frame]
        rfl
      rw [List.foldl_cons, List.foldl_cons, same, ih _ (by rwa [port])]
  exact fold allMasters s noHead

theorem execCutoffEvent_live (live : (s.conf m).standing ≠ .isolated) : exec (.cutoffEvent m) s = .next s := by
  have notDue : s.cutoffDue m = none := by
    cases due : s.cutoffDue m with
    | none => rfl
    | some r => exact absurd (State.cutoffDue_eq_some.mp due).2.1 live
  show execCutoffEvent m s = _
  simp only [execCutoffEvent, notDue]

theorem State.quietDue_iff :
    s.quietDue m = true ↔
      (((s.conf m).standing = .isolated ∧ (s.conf m).recovery = .quiet ∧ 255 ≤ (s.conf m).count) ∧ (s.port m).head = none) ∨
        s.meetsCutoff m = true := by
  have target : Config.quietTarget ≤ (s.conf m).count + 1 ↔ 255 ≤ (s.conf m).count := Nat.succ_le_succ_iff
  simp only [State.quietDue, Confinement.recovering, Bool.or_eq_true, Bool.and_eq_true, beq_iff_eq, Option.isNone_iff_eq_none,
    decide_eq_true_eq, target]
  refine or_congr ⟨fun ⟨⟨⟨isolated, quiet⟩, head⟩, reached⟩ => ⟨⟨isolated, quiet, reached⟩, head⟩,
    fun ⟨⟨isolated, quiet, reached⟩, head⟩ => ⟨⟨⟨isolated, quiet⟩, head⟩, reached⟩⟩ Iff.rfl

theorem execQuietRecovery_due (released : s.resetPin = false) (due : s.quietDue m = true) :
    exec (.quietRecovery m) s = .next (s.giveTick (some m)) := if_pos (by simp [released, due])

/-- Settles O46: the counts, the recoveries that they make due, and the joinings that follow. -/
theorem quietCountRecovers : Obligations.QuietCountRecovers := by
  intro s counted silent meets recovery released
  have meets_iff (m : Master) : s.meetsCutoff m = true ↔ meets m := State.meetsCutoff_iff released
  refine ⟨fun c command => ?_, fun m due => ?_⟩
  · obtain ⟨first, event, named⟩ : ∃ first : Option Master, exec c s = .next (s.giveTick first) ∧ ∀ m, first = some m ↔ c = .quietRecovery m := by
      obtain ⟨rfl, -⟩ | ⟨m, rfl, due⟩ := command
      · exact ⟨none, execTick_released released, fun m => by simp⟩
      · refine ⟨some m, execQuietRecovery_due released ((State.quietDue_iff).mpr (due.imp id (meets_iff m).mpr)), fun n => by simp⟩
    obtain ⟨u, d, quiet, counts, frame, conf, headed, met, draws⟩ := s.tick_counts first
    let firsts := allMasters.filter fun m => s.meetsCutoff m && quiet m
    have mem_firsts (m : Master) : m ∈ firsts ↔ s.meetsCutoff m = true ∧ quiet m = true := by simp [firsts, mem_allMasters]
    have quiet_iff (m : Master) : quiet m = true ↔ (s.port m).head = none ∨ m ∈ firsts := by
      rw [mem_firsts]
      cases meeting : s.meetsCutoff m with
      | false => simp [headed m meeting]
      | true =>
        obtain ⟨-, r, head, -⟩ := (meets_iff m).mp meeting
        simp [head]
    obtain ⟨order, d', nodup, members, few, recovers⟩ := State.recoverDue_order { u with draws := d } .quiet 256 .quiet
    have due (m : Master) : m ∈ order ↔ counted m ∧ quiet m = true := (members m).trans (State.tick_due d conf m)
    rw [foldl_draws _ (fun s d m => State.recover_draws .quiet s d m)] at recovers
    have recovers : State.recoverDue { u with draws := d } .quiet 256 .quiet = { order.foldl recovery u with draws := d' } := recovers
    have same : order.length = (State.recovered { u with draws := d } .quiet 256).length :=
      ((List.perm_ext_iff_of_nodup nodup (State.recovered_nodup _ _ _)).mpr members).length_eq
    let v : State := { order.foldl recovery u with draws := d' }
    have event : exec c s = .next (if order = [] then v else v.joinWaiters) := by
      rw [event, s.giveTick_eq, counts, State.recoverQuiet_eq, recovers]
      by_cases empty : order = []
      · have noneDue : State.recovered { u with draws := d } .quiet 256 = [] := List.eq_nil_of_length_eq_zero (by rw [← same, empty]; rfl)
        have kept : d' = d := few (by rw [noneDue]; decide)
        subst empty
        rw [if_pos noneDue, if_pos rfl, ← kept]
        rfl
      · have someDue : State.recovered { u with draws := d } .quiet 256 ≠ [] := fun noneDue =>
          empty (List.eq_nil_of_length_eq_zero (by rw [same, noneDue]; rfl))
        rw [if_neg someDue, if_neg empty]
    refine ⟨_, u, firsts, order, d', fun m there => (meets_iff m).mp ((mem_firsts m).mp there).1, nodup, fun m => ?_, fun m isRecovery => ?_,
      fun all single => ?_, event, rfl, fun k => ?_, by rw [frame]; rfl, by rw [frame]; rfl, fun n => ?_, ?_, fun m there => ?_⟩
    · rw [due, quiet_iff]
      constructor
      · rintro ⟨reached, noHead | there⟩
        · exact .inl ⟨reached, noHead⟩
        · exact .inr there
      · rintro (⟨reached, noHead⟩ | there)
        · exact ⟨reached, .inl noHead⟩
        · exact ⟨((meets_iff m).mp ((mem_firsts m).mp there).1).1, .inr there⟩
    · obtain ⟨rfl, -⟩ | ⟨m', rfl, due'⟩ := command
      · cases isRecovery
      · obtain rfl : m' = m := by simpa using isRecovery
        refine (due m').mpr ?_
        obtain ⟨reached, noHead⟩ | meeting := due'
        · exact ⟨reached, (quiet_iff m').mpr (.inl noHead)⟩
        · exact ⟨meeting.1, met m' ((meets_iff m').mpr meeting) ((named m').mpr rfl)⟩
    · have kept : d' = d := few (by rw [← same, single])
      rw [kept]
      exact draws fun n meeting => (named n).mpr (all n ((meets_iff n).mp meeting))
    · rw [frame]
      exact s.afterTimers_slot k
    · rw [conf n, quietCount_conf]
      simp only [quiet_iff]
    · rw [frame]
      rfl
    · have live : order ≠ [] := List.ne_nil_of_mem there
      have recovered : (order.foldl recovery u).conf m = { u.conf m with score := 0, standing := .active, count := 0, deferral := 0 } :=
        (State.recoverAll_conf .quiet order nodup u m).trans (if_pos there)
      have port : (order.foldl recovery u).port m = { u.port m with cut := false } :=
        (State.recoverAll_port .quiet order u m).trans (if_pos there)
      obtain ⟨listed, joined⟩ := v.joinWaiters_conf m
      have active : (v.joinWaiters.conf m).standing = .active := by
        rw [joined]
        exact congrArg Confinement.standing recovered
      have head : (v.joinWaiters.port m).head = (s.port m).head := by
        rw [v.joinWaiters_port]
        refine (congrArg Port.head port).trans ?_
        rw [frame]
        rfl
      show (State.conf (if order = [] then v else v.joinWaiters) m).standing = _ ∧ _
      rw [if_neg live]
      exact ⟨active, head, execCutoffEvent_live (by simp [active])⟩
  · obtain ⟨counted, noHead⟩ := due
    have due : s.quietDue m = true := (State.quietDue_iff).mpr (.inl ⟨counted, noHead⟩)
    rw [execTick_released released, execQuietRecovery_due released due, s.giveTick_eq, s.giveTick_eq, State.countQuiet_first (s := s.afterTimers) noHead]

end

end Sys2Proof.Machine
end

section
/-! SUPPORT. The recoveries by clean completion (R90, R92, R119, R121). -/

namespace Sys2Proof.Machine

section
variable {s t u v : State} {m n p q : Master} {k : SlotIx} {x y : Slot} {order : List Master} {item : MemoryItem}

theorem witnessCount_conf (c : Confinement) :
    witnessCount c = { c with count := if c.standing = .isolated ∧ c.recovery = .witness then c.count + 1 else c.count } := by
  unfold witnessCount
  by_cases counted : c.standing = .isolated ∧ c.recovery = .witness
  · have recovering : c.recovering .witness = true := by simpa [Confinement.recovering] using counted
    rw [if_pos recovering, if_pos counted]
  · have recovering : ¬c.recovering .witness = true := by simpa [Confinement.recovering] using counted
    rw [if_neg recovering, if_neg counted]

/-- R90: the masters that a clean completion recovers. -/
theorem State.witness_due (v : State) (n : Master) :
    n ∈ v.countWitness.recovered .witness 128 ↔
      (v.conf n).standing = .isolated ∧ (v.conf n).recovery = .witness ∧ 127 ≤ (v.conf n).count := by
  rw [State.mem_recovered, v.countWitness_conf, witnessCount_conf]
  constructor
  · rintro ⟨isolated, witness, reached⟩
    have isolated : (v.conf n).standing = .isolated := isolated
    have witness : (v.conf n).recovery = .witness := witness
    simp only [isolated, witness, and_self, if_true] at reached
    exact ⟨isolated, witness, by omega⟩
  · rintro ⟨isolated, witness, reached⟩
    simp only [isolated, witness, and_self, if_true, true_and]
    omega

/-- R90: the recoveries of a clean completion in the order in which they are taken. -/
theorem State.witness_order (v : State) :
    ∃ (order : List Master) (d : Nat), order.Nodup ∧
      (∀ m, m ∈ order ↔ (v.conf m).standing = .isolated ∧ (v.conf m).recovery = .witness ∧ 127 ≤ (v.conf m).count) ∧
      (order.length ≤ 1 → d = v.draws) ∧
      v.witness = { order.foldl (fun s m => s.recover m .witness) v.countWitness with draws := d } := by
  obtain ⟨order, d, nodup, members, few, recovers⟩ := v.countWitness.recoverDue_order .witness 128 .witness
  have same : order.length = (v.countWitness.recovered .witness 128).length :=
    ((List.perm_ext_iff_of_nodup nodup (State.recovered_nodup _ _ _)).mpr members).length_eq
  exact ⟨order, d, nodup, fun m => (members m).trans (v.witness_due m), fun short => few (same ▸ short), recovers⟩

/-! ### The items that complete without a fault (R119) -/

theorem State.completesClean_read (s : State) (word : Word) (status : BitVec 2) (last : Bool) :
    s.completesClean (.readBeat word status last) = true ↔ s.mem.state = .busy ∧ ∃ k x, s.issued = some (k, x) ∧ x.orphan = false ∧
      x.kind = .read ∧ last = true ∧ s.mem.sawBad = false ∧ x.beats.val ≤ s.mem.received + 1 ∧
        (x.beats.val ≤ s.mem.received ∨ status.toNat < 2) := by
  unfold State.completesClean
  by_cases busy : s.mem.state = .busy
  · cases issued : s.issued with
    | none => simp [busy]
    | some kx =>
      obtain ⟨k, x⟩ := kx
      simp only [busy, badStatus_eq]
      simp
      grind
  · cases state : s.mem.state with
    | busy => exact absurd state busy
    | idle | draining | held | failed => simp

theorem State.completesClean_write (s : State) (ok : Bool) :
    s.completesClean (.writeAck ok) = true ↔ s.mem.state = .busy ∧ ∃ k x, s.issued = some (k, x) ∧ x.orphan = false ∧
      x.kind = .write ∧ ok = true ∧ x.beats.val ≤ s.mem.taken := by
  unfold State.completesClean
  by_cases busy : s.mem.state = .busy
  · cases issued : s.issued with
    | none => simp [busy]
    | some kx =>
      obtain ⟨k, x⟩ := kx
      simp only [busy]
      simp
      grind
  · cases state : s.mem.state with
    | busy => exact absurd state busy
    | idle | draining | held | failed => simp

/-! ### What a clean completion leaves of the other masters (R65, R121) -/

theorem State.isolateMaster_other (cause : StandingCause) (other : n ≠ m) :
    (s.isolateMaster m cause).conf n = s.conf n ∧ (s.isolateMaster m cause).port n = s.port n := by
  rw [State.isolateMaster_eq]
  exact ⟨(State.hand_conf _ _ n).trans (s.cutOff_conf_ne other), (State.hand_port _ _ n).trans (s.cutOff_port_ne other)⟩

theorem State.writeScore_other (score : Nat) (other : n ≠ m) :
    (s.writeScore m score).conf n = s.conf n ∧ (s.writeScore m score).port n = s.port n := by
  have written (c : Confinement) : (s.setConf m c).conf n = s.conf n := s.setConf_conf_ne m c other
  unfold State.writeScore
  simp only
  split
  · exact ⟨(State.hand_conf _ _ n).trans (written _), State.hand_port _ _ n⟩
  · exact ⟨(State.hand_conf _ _ n).trans (written _), State.hand_port _ _ n⟩
  · exact State.isolateMaster_other .score other
  · exact State.isolateMaster_other .score other
  · exact ⟨written _, rfl⟩
  · exact ⟨written _, rfl⟩
  · exact ⟨rfl, rfl⟩

theorem State.cleanCompletion_other (other : n ≠ m) :
    (s.cleanCompletion m).conf n = s.conf n ∧ (s.cleanCompletion m).port n = s.port n := by
  unfold State.cleanCompletion
  split
  · exact State.writeScore_other _ other
  · exact State.writeScore_other _ other
  · exact ⟨rfl, rfl⟩
  · exact ⟨rfl, rfl⟩

theorem State.scoreMemory_ports (s : State) (c : HealthClass) (record : Nat → Option RecordBody) :
    (s.scoreMemory c record).ports = s.ports := by
  have recorded (r : Option RecordBody) (h : Health) : ((s.assess h).handSome r).ports = s.ports := by
    rw [s.assess_frame]
    cases r <;> simp [State.handSome]
  rw [s.scoreMemory_eq]
  simp only
  split
  · exact recorded _ _
  · exact (State.hand_ports _ _).trans (recorded _ _)

/-- R121: a completion with outcome DONE of a slot that is no orphan ends with the witness counts, the port and the wait list. -/
theorem State.completion_done {c : HealthClass} {record : Nat → Option RecordBody} {corrected : Bool} (own : y.orphan = false) :
    ∃ v : State, s.completion k y .done corrected c record = v.witness.leaveBusy.joinWaiters ∧
      ∀ n, n ≠ y.master → v.conf n = s.conf n ∧ v.port n = s.port n := by
  let ended := s.endSlot k y .done corrected
  have kept : ended = s.setSlot k (some { y with phase := .ready, outcome := some .done, corrected := corrected, timer := none }) := by
    simp [ended, State.endSlot, own]
  let scored := ended.scoreMemory c record
  have conf (n : Master) : scored.conf n = s.conf n := (State.conf_congr (State.scoreMemory_masters ended c record) n).trans (by rw [kept]; rfl)
  have port (n : Master) : scored.port n = s.port n := (State.port_congr (State.scoreMemory_ports ended c record) n).trans (by rw [kept]; rfl)
  refine ⟨scored.cleanCompletion y.master, ?_, fun n other => ?_⟩
  · simp only [State.completion, own, and_self, if_true]
    rfl
  · obtain ⟨confs, ports⟩ := State.cleanCompletion_other (s := scored) other
    exact ⟨confs.trans (conf n), ports.trans (port n)⟩

/-- R90: an item that completes clean ends with the witness counts; the masters without a slot are left as they were before these. -/
theorem State.itemArrives_clean (clean : s.completesClean item = true) :
    ∃ v : State, s.itemArrives item = v.witness.leaveBusy.joinWaiters ∧ ∀ n, s.held n = 0 → v.conf n = s.conf n ∧ v.port n = s.port n := by
  have free {k : SlotIx} {x : Slot} (issued : s.issued = some (k, x)) (own : x.orphan = false) {n : Master} (none' : s.held n = 0) :
      n ≠ x.master := by
    rintro rfl
    obtain ⟨live, -⟩ := s.issued_some k x issued
    have orphan := (s.held_eq_zero x.master).mp none' k x live rfl
    rw [own] at orphan
    cases orphan
  cases item with
  | readBeat word status last =>
    obtain ⟨busy, k, x, issued, own, read, rfl, good, enough, arrives⟩ := (s.completesClean_read word status last).mp clean
    obtain ⟨live, -⟩ := s.issued_some k x issued
    let u := s.storeBeat k x word status
    obtain ⟨y, held, own', master, whole, sound⟩ : ∃ y, u.slot k = some y ∧ y.orphan = false ∧ y.master = x.master ∧
        y.beats.val - u.mem.received = 0 ∧ u.mem.sawBad = false := by
      obtain ⟨full, e⟩ | ⟨room, e⟩ := s.storeBeat_cases k x word status
      · exact ⟨x, by rw [show u = s from e, live], own, rfl, by rw [show u = s from e]; omega, by rw [show u = s from e, good]⟩
      · have fine : badStatus status = false := by
          rw [badStatus_eq]
          exact decide_eq_false (by omega)
        simp only [u, e]
        exact ⟨_, s.setSlot_slot_self k _, own, rfl, by simp; omega, by simp [good, fine]⟩
    have same (n : Master) : u.conf n = s.conf n ∧ u.port n = s.port n := by
      have frame : u = _ := s.storeBeat_frame k x word status
      rw [frame]
      exact ⟨rfl, rfl⟩
    have event : s.itemArrives (.readBeat word status true) = u.completeRead k y := State.readBeatArrives_last busy issued read word status held
    rw [event, State.completeRead_good sound whole]
    obtain ⟨v, completes, others⟩ := State.completion_done (s := u) (k := k) (y := u.endedRead y u.fill)
      (c := if u.mem.sawCorrected then .corrected else .clean)
      (record := fun n => if u.mem.sawCorrected then some (.memoryCorrected y.master y.tag y.address y.orphan n) else none)
      (corrected := u.mem.sawCorrected) own'
    refine ⟨v, completes, fun n none' => ?_⟩
    obtain ⟨confs, ports⟩ := others n (fun self => free issued own none' (self.trans master))
    exact ⟨confs.trans (same n).1, ports.trans (same n).2⟩
  | writeAck ok =>
    obtain ⟨busy, k, x, issued, own, write, rfl, taken⟩ := (s.completesClean_write ok).mp clean
    have noFail : (!true || decide (s.mem.taken < x.beats.val)) = false := by simp; omega
    have event : s.itemArrives (.writeAck true) = s.completion k x .done false .clean (writeRecord x false) := by
      show s.writeAckArrives true = _
      rw [State.writeAckArrives_write busy issued write, noFail]
      rfl
    obtain ⟨v, completes, others⟩ := State.completion_done (s := s) (k := k) (c := .clean) (record := writeRecord x false) (corrected := false) own
    exact ⟨v, event.trans completes, fun n none' => others n (free issued own none')⟩

/-! ### The recovery within the completion (R90, R92) -/

theorem State.leaveBusy_port (s : State) (p : Master) : s.leaveBusy.port p = s.port p := by
  obtain ⟨-, e⟩ | ⟨-, -, e⟩ | ⟨-, -, e⟩ := s.leaveBusy_cases <;> rw [e] <;> rfl

theorem State.leaveBusy_conf (s : State) (m : Master) : s.leaveBusy.conf m = s.conf m := State.conf_congr s.leaveBusy_masters m

theorem State.leaveBusy_recovery (s : State) (flag : s.alerts.flags.recovery = true) : s.leaveBusy.alerts.flags.recovery = true := by
  obtain ⟨-, e⟩ | ⟨-, -, e⟩ | ⟨-, -, e⟩ := s.leaveBusy_cases <;> rw [e] <;> exact flag

theorem State.joinWaiters_alerts (s : State) : s.joinWaiters.alerts = s.alerts := by
  obtain ⟨_, h, -⟩ := s.joinWaiters_joined
  rw [h.waiting.1]

/-- R92: a recovery sets the RECOVERY flag, and the last of several leaves it set. -/
theorem State.recoverAll_recovery (cause : StandingCause) (order : List Master) (some' : order ≠ []) (s : State) :
    (order.foldl (fun s m => s.recover m cause) s).alerts.flags.recovery = true := by
  obtain ⟨init, last, rfl⟩ := (List.eq_nil_or_concat' order).resolve_left some'
  rw [List.foldl_append]
  rfl

/-- A clean completion is due to recover the master. -/
def State.WitnessDue (v : State) (m : Master) : Prop :=
  (v.conf m).standing = .isolated ∧ (v.conf m).recovery = .witness ∧ 127 ≤ (v.conf m).count

theorem State.witness_recovers (due : v.WitnessDue m) :
    v.witness.conf m = { v.conf m with score := 0, standing := .active, count := 0, deferral := 0 } ∧
      v.witness.port m = { v.port m with cut := false } ∧ v.witness.alerts.flags.recovery = true := by
  obtain ⟨order, d, nodup, members, -, recovers⟩ := v.witness_order
  have there : m ∈ order := (members m).mpr due
  have conf := (State.recoverAll_conf .witness order nodup v.countWitness m).trans (if_pos there)
  have port := (State.recoverAll_port .witness order v.countWitness m).trans (if_pos there)
  have flag := State.recoverAll_recovery .witness order (List.ne_nil_of_mem there) v.countWitness
  rw [recovers]
  generalize order.foldl (fun s m => s.recover m .witness) v.countWitness = w at conf port flag
  rw [v.countWitness_conf, witnessCount_conf] at conf
  exact ⟨conf, port, flag⟩

theorem State.witness_counts (notDue : ¬v.WitnessDue m) : v.witness.conf m = witnessCount (v.conf m) := by
  obtain ⟨order, d, nodup, members, -, recovers⟩ := v.witness_order
  have conf := (State.recoverAll_conf .witness order nodup v.countWitness m).trans (if_neg fun there => notDue ((members m).mp there))
  rw [recovers]
  generalize order.foldl (fun s m => s.recover m .witness) v.countWitness = w at conf
  exact conf.trans (v.countWitness_conf m)

/-- R122: the end of a completion leaves the records but for the wait list, the ports and the flag. -/
theorem State.ending (w : State) (m : Master) :
    (∃ listed, w.leaveBusy.joinWaiters.conf m = { w.conf m with waitListed := listed }) ∧
      w.leaveBusy.joinWaiters.port m = w.port m ∧
      (w.alerts.flags.recovery = true → w.leaveBusy.joinWaiters.alerts.flags.recovery = true) := by
  refine ⟨?_, (State.joinWaiters_port _ m).trans (w.leaveBusy_port m), fun flag => ?_⟩
  · rw [← w.leaveBusy_conf m]
    exact w.leaveBusy.joinWaiters_conf m
  · rw [State.joinWaiters_alerts]
    exact w.leaveBusy_recovery flag

/-- Settles O47: the counts and the recoveries, the items that complete clean, and the completion that brings a count to 128. -/
theorem witnessCountRecovers : Obligations.WitnessCountRecovers := by
  refine ⟨fun v => ?_, fun s word status last ok => ⟨s.completesClean_read word status last, s.completesClean_write ok⟩,
    fun s m item clean isolated witness free => ⟨fun full => ?_, fun below => ?_⟩⟩
  · obtain ⟨order, d, nodup, members, few, recovers⟩ := v.witness_order
    exact ⟨v.countWitness, order, d, nodup, members, few, recovers,
      fun n => (v.countWitness_conf n).trans (witnessCount_conf _), rfl⟩
  · obtain ⟨v, arrives, kept⟩ := State.itemArrives_clean clean
    obtain ⟨conf, port⟩ := kept m free
    have target : Config.witnessTarget ≤ (s.conf m).count + 1 := by rw [full]; decide
    have event : exec (.witnessRecovery m item) s = .next (s.itemArrives item) :=
      if_pos (by simp [clean, Confinement.recovering, isolated, witness, target])
    have due : v.WitnessDue m := by
      rw [State.WitnessDue, conf]
      exact ⟨isolated, witness, by omega⟩
    obtain ⟨recovered, released, flag⟩ := State.witness_recovers due
    obtain ⟨⟨listed, conf'⟩, port', raised⟩ := v.witness.ending m
    refine ⟨v, _, event.trans (congrArg _ arrives), rfl, kept, ?_, ?_, ?_⟩
    · rintro word status last rfl
      exact event.symm
    · rintro ok rfl
      exact event.symm
    · rw [conf', port', recovered, released, conf, port]
      exact ⟨rfl, rfl, rfl, rfl, witness, rfl, raised flag⟩
  · obtain ⟨v, arrives, kept⟩ := State.itemArrives_clean clean
    obtain ⟨conf, -⟩ := kept m free
    have notDue : ¬v.WitnessDue m := fun due => by
      obtain ⟨-, -, reached⟩ := due
      rw [conf] at reached
      omega
    obtain ⟨⟨listed, conf'⟩, -⟩ := v.witness.ending m
    have counted : witnessCount (s.conf m) = { s.conf m with count := (s.conf m).count + 1 } := by
      simp [witnessCount, Confinement.recovering, isolated, witness]
    rw [State.witness_counts notDue, conf, counted] at conf'
    refine ⟨s.itemArrives item, ?_, ?_, ?_⟩
    · rintro word status last rfl
      rfl
    · rintro ok rfl
      rfl
    · rw [arrives, conf']
      exact ⟨rfl, isolated⟩

end

end Sys2Proof.Machine
end

section
/-! SUPPORT. The power-on reset and the RESET input (R179 to R182), and the invariants right after a power-on reset. -/

namespace Sys2Proof.Machine

section
variable {s t u v w : State} {m n p q : Master} {order : List Master}

/-! ### The invariants at the power-on reset -/

@[simp] theorem State.reset_slot (k : SlotIx) : State.reset.slot k = none := by simp [State.reset, State.slot]
@[simp] theorem State.reset_conf (m : Master) : State.reset.conf m = Confinement.fresh := by simp [State.reset, State.conf]
@[simp] theorem State.reset_port (p : Master) : State.reset.port p = Port.empty := by simp [State.reset, State.port]
@[simp] theorem State.reset_window (i : WindowIx) : State.reset.window i = Window.dead := by simp [State.reset, State.window]

theorem State.reset_portAgrees : State.reset.PortAgrees := by
  have noSlot (P : Slot → Prop) : State.reset.Every P := .of_none State.reset_slot
  refine ⟨fun p => by simp [Port.empty], (State.countPhase_eq_zero _ _).mpr (noSlot _), fun k => by simp, by decide,
    fun _ => (State.countPhase_eq_zero _ _).mpr (noSlot _), rfl, rfl⟩

/-- Settles O60: no slot is live, no port has work, no record is stored and no frame is in progress. -/
theorem resetHasTheInvariants : Obligations.ResetHasTheInvariants :=
  ⟨⟨by decide, fun m => by simp [Confinement.fresh, Port.empty]⟩,
    State.bufferAccounted_of_none State.reset_slot rfl,
    State.limitsKept_of_none State.reset_slot,
    by decide,
    State.waitListSound_iff.mpr ⟨List.nodup_nil, fun m => by
      have nobody : State.reset.waitList = [] := rfl
      simp [nobody, Confinement.Mirrors, Confinement.fresh]⟩,
    State.reset_portAgrees,
    fun m => by simp [Confinement.fresh],
    ⟨fun i => by simp [Window.dead], by decide⟩,
    by decide,
    fun k => by simp⟩

/-! ### Records of several hand-overs -/

/-- One PORT CLEARED record without a dropped slot for each port of `order`. -/
def State.handCleared (s : State) (order : List Master) : State := order.foldl (fun w p => w.hand (.portCleared p 0)) s

theorem State.handCleared_reads (order : List Master) (queue : t.queue = s.queue) (alerts : t.alerts = s.alerts) :
    t.handCleared order = { t with queue := (s.handCleared order).queue, alerts := (s.handCleared order).alerts } := by
  induction order generalizing s t with
  | nil =>
    show t = { t with queue := s.queue, alerts := s.alerts }
    rw [← queue, ← alerts]
  | cons p order ih =>
    have first := State.hand_reads s t (.portCleared p 0) queue alerts
    have rest := ih (s := s.hand (.portCleared p 0)) (t := t.hand (.portCleared p 0)) (by rw [first]) (by rw [first])
    show (t.hand (.portCleared p 0)).handCleared order = _
    rw [rest, first]
    rfl

/-! ### Port clears of a unit without slots (R40, R181) -/

/-- The unit holds no slot, no waiting port and no score, as after a power-on or pin reset. -/
structure State.Blank (s : State) : Prop where
  slots : s.slots = Vector.replicate 16 none
  masters : s.masters = Vector.replicate 4 Confinement.fresh
  waitList : s.waitList = []
  freeWords : s.freeWords = 64

/-- R40: what a port clear leaves of a port. -/
def Port.cleared (x : Port) : Port := { x with head := none, writeList := [], offer := none }

theorem State.Blank.slot (blank : s.Blank) (k : SlotIx) : s.slot k = none :=
  (State.slot_congr (s := State.reset) (t := s) blank.slots k).trans (State.reset_slot k)

theorem State.Blank.conf (blank : s.Blank) (m : Master) : s.conf m = Confinement.fresh :=
  (State.conf_congr (s := State.reset) (t := s) blank.masters m).trans (State.reset_conf m)

theorem State.Blank.clearPort (blank : s.Blank) (p : Master) : s.clearPort p = s.setPort p (s.port p).cleared := by
  have slots : mapBank (dropOne p) s.slots = s.slots := by rw [blank.slots]; rfl
  have words : s.dropWords p = 0 := by simp [State.dropWords, blank.slot]
  have drops : s.dropSlots p = s := by rw [State.dropSlots, slots, words]; rfl
  have leaves : s.leaveWaitList p = s := by
    have listed : ({ s.conf p with waitListed := false } : Confinement) = s.conf p := by rw [blank.conf]; rfl
    have list : s.waitList.filter (· != p) = s.waitList := by rw [blank.waitList]; rfl
    rw [State.leaveWaitList, listed, list]
    exact s.setConf_self p
  rw [State.clearPort, drops, leaves]
  rfl

theorem State.Blank.portClear (blank : s.Blank) (p : Master) :
    s.portClear p = (s.setPort p (s.port p).cleared).hand (.portCleared p 0) := by
  have none' : s.dropCount p = 0 := by simp [s.dropCount_eq, blank.slot]
  rw [s.portClear_eq, none', blank.clearPort]

theorem State.Blank.hand (blank : s.Blank) (b : RecordBody) : (s.hand b).Blank :=
  ⟨(s.hand_slots b).trans blank.slots, (s.hand_masters b).trans blank.masters, (s.hand_waitList b).trans blank.waitList,
    (s.hand_freeWords b).trans blank.freeWords⟩

/-- R181: the clears of the ports of `order` change those ports, and the records are those of the unit as it was before. -/
theorem State.Blank.portClears (blank : s.Blank) (order : List Master) :
    ∃ ports, order.foldl State.portClear s = { s.handCleared order with ports := ports } ∧
      ∀ p, State.port { s with ports := ports } p = if p ∈ order then (s.port p).cleared else s.port p := by
  induction order generalizing s with
  | nil => exact ⟨s.ports, rfl, fun p => rfl⟩
  | cons q order ih =>
    let s1 := s.setPort q (s.port q).cleared
    have blank1 : s1.Blank := ⟨blank.slots, blank.masters, blank.waitList, blank.freeWords⟩
    obtain ⟨ports, clears, port⟩ := ih (blank1.hand (.portCleared q 0))
    have records : (s1.hand (.portCleared q 0)).handCleared order = { s.handCleared (q :: order) with ports := s1.ports } := by
      have one : s1.handCleared (q :: order) = _ := State.handCleared_reads (s := s) (t := s1) (q :: order) rfl rfl
      have whole : s.handCleared (q :: order) = _ := State.handCleared_reads (s := s) (t := s) (q :: order) rfl rfl
      exact one.trans (by conv => rhs; rw [whole]
                          rfl)
    refine ⟨ports, ?_, fun p => ?_⟩
    · rw [List.foldl_cons, blank.portClear, clears, records]
    · refine (port p).trans ?_
      have before : (s1.hand (.portCleared q 0)).port p = if p = q then (s.port q).cleared else s.port p :=
        (State.hand_port s1 _ p).trans (by
          split
          · rename_i self
            subst self
            exact s.setPort_port_self p _
          · exact s.setPort_port_ne q _ ‹_›)
      rw [before]
      by_cases self : p = q
      · subst self
        simp [Port.cleared]
      · simp [self]

/-! ### The unit goes on after a reset (R41, R181, R182) -/

theorem Port.promote_eq (x : Port) :
    x.promote = if x.pclr = false ∧ x.head = none then { x with head := x.waiting, waiting := none } else x := by
  split
  · rename_i free
    exact Port.promote_free free.2 free.1
  · rename_i taken
    unfold Port.promote
    split
    · rfl
    · refine if_neg fun free => taken ?_
      simpa [and_comm] using free

@[simp] theorem Port.promote_pclr (x : Port) : x.promote.pclr = x.pclr := by
  rw [x.promote_eq]
  split <;> rfl

/-- R181, R182: the unit goes on with the waiting requests presented and the asserted ports cleared, one after the other. -/
theorem State.goOn_order (s : State) :
    ∃ (order : List Master) (d : Nat), order.Nodup ∧ (∀ p, p ∈ order ↔ (s.port p).pclr = true) ∧ (order.length ≤ 1 → d = s.draws) ∧
      s.goOn = State.joinWaiters { order.foldl State.portClear { s with ports := mapBank Port.promote s.ports } with draws := d } := by
  let u : State := { s with ports := mapBank Port.promote s.ports }
  have due (p : Master) : p ∈ u.clearedPorts ↔ (s.port p).pclr = true := by
    have port : u.port p = (s.port p).promote := s.mapBank_port Port.promote p
    simp [State.clearedPorts, mem_allMasters, port]
  have dueNodup : u.clearedPorts.Nodup := List.Nodup.filter _ (by decide)
  obtain ⟨order, d, nodup, members, few, clears⟩ :=
    inFreeOrder_order State.portClear State.portClear_draws 4 u.clearedPorts u dueNodup (length_of_nodup dueNodup)
  have same : order.length = u.clearedPorts.length := ((List.perm_ext_iff_of_nodup nodup dueNodup).mpr members).length_eq
  exact ⟨order, d, nodup, fun p => (members p).trans (due p), fun short => few (same ▸ short), congrArg State.joinWaiters clears⟩

theorem State.need_le (s : State) (p : Master) (r : Request) : s.need p r ≤ 16 := by
  by_cases formed : s.formCause p r = none
  · rw [State.need_wellFormed formed]
    by_contra long
    have wrong : s.formCause p r = some .beats := if_pos (by omega)
    rw [formed] at wrong
    cases wrong
  · rw [State.need_malformed formed]
    exact Nat.zero_le _

/-- R30: with the whole buffer free and no port waiting, every request fits and no port joins the wait list. -/
theorem State.joinWaiters_roomy (words : s.freeWords = 64) (nobody : s.waitList = []) : s.joinWaiters = s := by
  refine State.joinWaiters_settled fun p => Bool.eq_false_iff.mpr fun due => ?_
  obtain ⟨-, r, -, narrow | ⟨some', -⟩⟩ := (s.mustJoin_iff p).mp due
  · have := s.need_le p r
    omega
  · exact some' nobody

/-! ### The values of the power-on and pin resets (R179 to R182) -/

theorem State.resetValues_blank (s : State) (o : Origin) (onPort : Port → Port) : (s.resetValues o onPort).Blank := ⟨rfl, rfl, rfl, rfl⟩

theorem State.resetValues_port (s : State) (o : Origin) (onPort : Port → Port) (p : Master) :
    (s.resetValues o onPort).port p = onPort (s.port p) := by simp [State.resetValues, State.port]

/-- R170: with SSEL deasserted SDOUT is not driven after a reset; what it shows else is left open. -/
theorem State.sdoutAtReset_open (s : State) : (if s.link.ssel = true then s.sdoutAtReset else none) = s.sdoutAtReset := by
  unfold State.sdoutAtReset
  split <;> rfl

/-- R181: the unit after a power-on reset without RESET. -/
theorem State.goOn_blank (blank : s.Blank) :
    ∃ (order : List Master) (ports : Vector Port 4) (d : Nat), order.Nodup ∧ (∀ p, p ∈ order ↔ (s.port p).pclr = true) ∧
      s.goOn = { s.handCleared order with ports := ports, draws := d } ∧
      ∀ p, State.port { s with ports := ports } p = if (s.port p).pclr = true then (s.port p).cleared else (s.port p).promote := by
  obtain ⟨order, d, nodup, members, -, goesOn⟩ := s.goOn_order
  let u : State := { s with ports := mapBank Port.promote s.ports }
  have blank' : u.Blank := ⟨blank.slots, blank.masters, blank.waitList, blank.freeWords⟩
  obtain ⟨ports, clears, port⟩ := blank'.portClears order
  have records : u.handCleared order = _ := State.handCleared_reads (s := s) order rfl rfl
  have whole : s.handCleared order = _ := State.handCleared_reads (s := s) order rfl rfl
  refine ⟨order, ports, d, nodup, members, ?_, fun p => (port p).trans ?_⟩
  · rw [goesOn, clears, records]
    refine (State.joinWaiters_roomy ?_ ?_).trans ?_
    · exact blank.freeWords
    · exact blank.waitList
    · conv => rhs; rw [whole]
  · have before : u.port p = (s.port p).promote := s.mapBank_port Port.promote p
    rw [before]
    by_cases asserted : (s.port p).pclr = true
    · have kept : (s.port p).promote = s.port p := by rw [Port.promote_eq, if_neg (by simp [asserted])]
      rw [if_pos ((members p).mpr asserted), if_pos asserted, kept]
    · rw [if_neg fun there => asserted ((members p).mp there), if_neg asserted]

/-- Settles O48: the values of the two resets, and how the unit goes on from them. -/
theorem powerAndPinResetsTakeTheirValues : Obligations.PowerAndPinResetsTakeTheirValues := by
  refine ⟨fun s => ?values, fun s reset => ?release⟩
  case' values =>
    intro cleared
    refine ⟨fun released => ?_, fun released => ?_, fun reset => ?_⟩
  · let w := s.resetValues .power Port.afterPower
    obtain ⟨order, ports, d, nodup, members, goesOn, port⟩ := State.goOn_blank (s.resetValues_blank .power Port.afterPower)
    simp only [s.resetValues_port] at members port
    let c : State := { w with ports := ports, draws := d }
    have records : w.handCleared order = _ := State.handCleared_reads (s := w) order rfl rfl
    have records' : c.handCleared order = _ := State.handCleared_reads (s := w) order rfl rfl
    let t : State := { c with queue := (w.handCleared order).queue, alerts := (w.handCleared order).alerts }
    have event : exec .powerOnReset s = .next t :=
      (if_neg (by simp [released])).trans (congrArg Host.Outcome.next (goesOn.trans (by rw [records])))
    have values : cleared t .power = c := by
      show { c with link := { c.link with sdout := if s.link.ssel = true then s.sdoutAtReset else none } } = c
      rw [s.sdoutAtReset_open]
      rfl
    refine ⟨t, order, event, released, nodup, members, ?_, fun p => ?_⟩
    · show t = { cleared t .power with
        queue := ((cleared t .power).handCleared order).queue, alerts := ((cleared t .power).handCleared order).alerts }
      rw [values, records']
    · have after : t.port p = _ := port p
      rw [after]
      cases asserted : (s.port p).pclr with
      | true => simp [Port.afterPower, Port.empty, Port.cleared, asserted]
      | false =>
        rw [Port.promote_eq]
        by_cases free : (s.port p).head = none
        · simp [Port.afterPower, Port.empty, asserted, free]
        · simp [Port.afterPower, Port.empty, asserted, free]
  · let t := State.resetValues { s with resetPin := true } .pin Port.afterPin
    refine ⟨t, if_neg (by simp [released]), ?_, rfl, fun p => ?_⟩
    · show t = { t with link := { t.link with sdout := if s.link.ssel = true then s.sdoutAtReset else none } }
      rw [s.sdoutAtReset_open]
      rfl
    · exact State.resetValues_port _ .pin Port.afterPin p
  · let t := s.resetValues .pin Port.afterPower
    refine ⟨t, if_pos reset, ?_, reset, fun p => ?_⟩
    · show t = { t with link := { t.link with sdout := if s.link.ssel = true then s.sdoutAtReset else none } }
      rw [s.sdoutAtReset_open]
      rfl
    · exact s.resetValues_port .pin Port.afterPower p
  · let r : State := { s with resetPin := false }
    let u : State := { r with ports := mapBank Port.promote r.ports }
    obtain ⟨order, d, nodup, members, few, goesOn⟩ := r.goOn_order
    refine ⟨u, order, d, nodup, members, few, (if_pos reset).trans (congrArg Host.Outcome.next goesOn), fun p => ?_, rfl⟩
    exact (r.mapBank_port Port.promote p).trans (Port.promote_eq _)

end

end Sys2Proof.Machine
end

section
/-! SUPPORT. No command stops the unit or touches the queue of waiting commands, and a command whose conditions do not hold leaves the
state as it stands. -/

namespace Sys2Proof.Machine

section
variable {c : Instr} {s t u : State} {a b : Stage} {p m : Master} {k : SlotIx} {x : Slot}

/-! ### The queue of waiting commands -/

theorem Recovery.pending (step : Recovery s t) : t.pending = s.pending := by
  cases step with
  | hand b => exact s.hand_pending b
  | flags | draws | readmit => rfl

theorem Follow.pending (step : Follow s t) : t.pending = s.pending := by
  cases step with
  | recovery step => exact step.pending
  | recoveries counts taken _ =>
    refine Recovery.all_keep (P := fun v => v.pending = s.pending) (fun _ _ step kept => step.pending.trans kept) taken ?_
    rw [counts.1]
  | link | port | promote | silence | join | score | limit | relax | cutOff | clear => rfl

theorem Move.pending (step : Move c a s b t) : t.pending = s.pending := by
  cases step with
  | follow step => exact step.pending
  | stall _ k x live filling => simp only [State.setWriteList, State.setPort]; rw [s.freeSlot_frame k]
  | free _ k x live delivering => rw [s.freeSlot_frame k]
  | dropOrphan _ k x busy issued => rw [s.freeSlot_frame k]
  | grant _ w k x idle candidate live => simp only; rw [State.deferAt_frame]; rfl
  | storeBeat _ k x word status busy issued read => rw [s.storeBeat_frame k x word status]
  | assess _ h sound => rw [s.assess_frame h]
  | memory _ mem h => rw [State.assess_frame]
  | pop _ hc r rest records => split <;> rfl
  | allocate | fillMore | fillEnd | deliver | advance | finish | close | failQueued | timers | edge | mode | fill | window
  | timing | deferral | mask | enables | clearFlags | recoveryMode | clearActive | clearLimited | isolate | restore | resetReleased
  | serviceReset | resetValues | resetAsserted => rfl

theorem exec_next (c : Instr) (s : State) : ∃ t, exec c s = .next t ∧ t.pending = s.pending := by
  obtain ⟨t, e, course⟩ := exec_carried c s
  exact ⟨t, e, course.keeps_state (fun u => u.pending = s.pending) rfl fun _ _ _ _ step kept => step.pending.trans kept⟩

/-! ### Events at the master ports whose conditions fail (R12, R21, R23, R38) -/

theorem execRequestPresentation_behind {r : Request} (taken : (s.port p).head ≠ none ∨ (s.port p).waiting ≠ none) :
    exec (.requestPresentation p r) s = .next s :=
  if_pos (by simpa [Option.isSome_iff_ne_none] using taken)

/-- R23: the nine conditions of the admission event hold of the head request. -/
theorem State.admissible_facts {r : Request} (due : s.admissible p = some r) :
    s.ready17 p = some r ∧ s.need p r ≤ s.freeWords ∧ (s.waitList = [] ∨ s.waitList.head? = some p) := by
  unfold State.admissible at due
  cases ready : s.ready17 p with
  | none => simp [ready] at due
  | some r' =>
    simp only [ready, Option.ite_none_right_eq_some, State.ready89, Bool.and_eq_true, decide_eq_true_eq, s.atHead_iff] at due
    obtain ⟨⟨fits, first⟩, same⟩ := due
    obtain rfl := Option.some.inj same
    exact ⟨rfl, fits, first⟩

theorem execAdmissionEvent_undue (undue : s.admissible p = none) : exec (.admissionEvent p) s = .next s := by
  show execAdmissionEvent p s = _
  simp only [execAdmissionEvent, undue]

theorem execCutoffEvent_undue (undue : s.cutoffDue p = none) : exec (.cutoffEvent p) s = .next s := by
  show execCutoffEvent p s = _
  simp only [execCutoffEvent, undue]

theorem execWriteDataBeat_undue {d : DataBeat} (undue : s.resetPin = true ∨ (s.port p).pclr = true ∨ (s.port p).writeList = []) :
    exec (.writeDataBeat p d) s = .next s := by
  show execWriteDataBeat p d s = _
  unfold execWriteDataBeat
  obtain reset | asserted | empty := undue
  · exact if_pos (by simp [reset])
  · exact if_pos (by simp [asserted])
  · rw [empty]
    split <;> rfl

/-! ### Stalls and delivery (R14, R16, R17, R37) -/

theorem execFillingStall_undue (undue : ∀ x, s.slot k = some x → x.phase ≠ .filling ∨ x.timer ≠ some 0) :
    exec (.fillingStall k) s = .next s := by
  show execFillingStall k s = _
  unfold execFillingStall
  cases live : s.slot k with
  | none => rfl
  | some x =>
    have running : ¬(x.phase = .filling ∧ x.timer = some 0) := fun due => (undue x live).elim (· due.1) (· due.2)
    exact if_neg running

theorem execDeliveringStall_undue (undue : ∀ x, s.slot k = some x → x.phase ≠ .delivering ∨ x.timer ≠ some 0) :
    exec (.deliveringStall k) s = .next s := by
  show execDeliveringStall k s = _
  unfold execDeliveringStall
  cases live : s.slot k with
  | none => rfl
  | some x =>
    have running : ¬(x.phase = .delivering ∧ x.timer = some 0) := fun due => (undue x live).elim (· due.1) (· due.2)
    exact if_neg running

/-- R14: the slot that enters DELIVERING is READY, its master's oldest, and none of the master's slots is in DELIVERING. -/
theorem State.deliverable_oldest {r : Result} (due : s.deliverable p = some (k, x, r)) :
    (∀ j y, s.slot j = some y → y.master = p → y.orphan = false → y.phase ≠ .delivering) ∧
      s.slot k = some x ∧ x.master = p ∧ x.orphan = false ∧ x.phase = .ready ∧
      ∀ j y, s.slot j = some y → y.master = p → y.orphan = false →
        (s.counter p - y.admission).toNat ≤ (s.counter p - x.admission).toNat := by
  obtain ⟨live, ready, -⟩ := State.deliverable_eq_some due
  unfold State.deliverable at due
  cases delivering : s.deliveringIx p with
  | some j => simp [delivering] at due
  | none =>
    cases oldest : s.oldest p fun _ => true with
    | none => simp [delivering, oldest] at due
    | some j =>
      obtain ⟨y, live', master, own, -, older⟩ := s.oldest_some p _ j oldest
      obtain rfl : j = k := by
        simp only [delivering, oldest, live', Option.isSome_none, Bool.false_eq_true, if_false] at due
        split at due
        · exact congrArg Prod.fst (Option.some.inj due)
        · cases due
      obtain rfl := Option.some.inj (live.symm.trans live')
      refine ⟨fun i z slot owner mine phase => ?_, live, master, own, ready, fun i z slot owner mine => older i z slot owner mine rfl⟩
      exact List.find?_eq_none.mp delivering i (mem_allSlots i)
        ((s.owns_iff p _ i).mpr ⟨z, slot, owner, mine, beq_iff_eq.mpr phase⟩)

theorem execEnterDelivering_undue (undue : s.deliverable p = none) : exec (.enterDelivering p) s = .next s := by
  show execEnterDelivering p s = _
  simp only [execEnterDelivering, undue]

theorem execResponseItemTake_nothing (nothing : (s.port p).offer = none) : exec (.responseItemTake p) s = .next s := by
  show execResponseItemTake p s = _
  simp only [execResponseItemTake, nothing]

/-! ### The memory port (R101, R114, R116, R118, R120, R123, R125, R126) -/

theorem execGrant_undue (undue : s.mem.state ≠ .idle ∨ s.winner = none) : exec .grant s = .next s := by
  show execGrant s = _
  unfold execGrant
  split
  · rename_i idle won
    obtain busy | nobody := undue
    · exact absurd idle busy
    · rw [nobody] at won
      cases won
  · rfl

theorem execIssueTake_nothing (nothing : s.mem.issueOffered = false) : exec .issueTake s = .next s := by
  show Host.Outcome.next { s with mem := { s.mem with issueOffered := false } } = _
  rw [← nothing]

theorem State.offersWriteData_iff :
    s.offersWriteData = true ↔ s.mem.state = .busy ∧ ∃ k x, s.issued = some (k, x) ∧ x.kind = .write ∧ s.mem.taken < x.beats.val := by
  unfold State.offersWriteData
  split
  · rename_i k x busy issued
    simp [busy, issued]
  · rename_i unmet
    exact iff_of_false (by simp) fun ⟨busy, k, x, issued, _⟩ => unmet k x busy issued

theorem State.readBeatArrives_undue {word : Word} {status : BitVec 2} {last : Bool}
    (undue : s.mem.state = .busy → ∀ k x, s.issued = some (k, x) → x.kind = .write) : s.readBeatArrives word status last = s := by
  unfold State.readBeatArrives
  split
  · rename_i k x busy issued
    simp only [undue busy k x issued]
  · rfl

theorem State.writeAckArrives_undue {ok : Bool} (undue : s.mem.state = .busy → ∀ k x, s.issued = some (k, x) → x.kind = .read) :
    s.writeAckArrives ok = s := by
  unfold State.writeAckArrives
  split
  · rename_i k x busy issued
    simp only [undue busy k x issued]
  · rfl

theorem execMemoryTimeout_undue (undue : s.mem.state = .busy → s.mem.timer = some 0 → s.issued = none) :
    exec .memoryTimeout s = .next s := by
  show execMemoryTimeout s = _
  unfold execMemoryTimeout
  split
  · rename_i busy expired issued
    rw [undue busy expired] at issued
    cases issued
  · rfl

theorem execAbortAcknowledge_undue (undue : s.mem.state ≠ .draining) : exec .abortAcknowledge s = .next s :=
  (unexpectedItemsAreDiscarded s 0#32 0#2 false false).2.1 undue

theorem execAbortTimeout_undue (undue : s.mem.state ≠ .draining ∨ s.mem.timer ≠ some 0) : exec .abortTimeout s = .next s := by
  show execAbortTimeout s = _
  unfold execAbortTimeout
  split
  · rename_i draining expired
    exact (undue.elim (· draining) (· expired)).elim
  · rfl

/-! ### Recoveries by count (R89, R90, R95) -/

theorem execQuietRecovery_undue (undue : s.resetPin = false → s.quietDue m = false) : exec (.quietRecovery m) s = .next s := by
  refine if_neg fun due => ?_
  obtain ⟨released, due⟩ : s.resetPin = false ∧ s.quietDue m = true := by simpa using due
  rw [undue released] at due
  cases due

theorem execWitnessRecovery_undue {item : MemoryItem}
    (undue : (s.conf m).standing ≠ .isolated ∨ (s.conf m).recovery ≠ .witness ∨ (s.conf m).count < 127 ∨ s.completesClean item = false) :
    exec (.witnessRecovery m item) s = .next s := by
  refine if_neg fun due => ?_
  obtain ⟨⟨clean, isolated, witness⟩, reached⟩ :
      (s.completesClean item = true ∧ (s.conf m).standing = .isolated ∧ (s.conf m).recovery = .witness) ∧ 128 ≤ (s.conf m).count + 1 := by
    simpa [Confinement.recovering, Config.witnessTarget] using due
  obtain live | other | below | faulty := undue
  · exact live isolated
  · exact other witness
  · omega
  · rw [faulty] at clean
    cases clean

/-! ### The service link (R170 to R175, R181, R182) -/

/-- The link cannot bring a frame of `bytes` and `tail` to its end: RESET is asserted, or what has been shifted in does not begin it. -/
def State.Unfit (s : State) (bytes : List Byte) (tail : List Bool) : Prop :=
  s.resetPin = true ∨ s.link.ssel = true ∧ ∀ f : Frame, s.link.frame = some f →
    bytes.length < f.count ∨ f.bytes ≠ (bytes.take f.count).take 11 ∨ ¬f.bits <+: bytesBits (bytes.drop f.count) ++ tail

theorem State.Unfit.accepts {bytes : List Byte} {tail : List Bool} (unfit : s.Unfit bytes tail) : s.accepts bytes tail = false := by
  obtain reset | ⟨selected, unfit⟩ := unfit
  · simp [State.accepts, reset]
  · cases frame : s.link.frame with
    | none => simp [State.accepts, selected, frame]
    | some f =>
      have strange : f.begins bytes tail = false := Bool.eq_false_iff.mpr fun begins => by
        obtain ⟨⟨within, same⟩, bits⟩ : (f.count ≤ bytes.length ∧ f.bytes = (bytes.take f.count).take 11) ∧
            f.bits <+: bytesBits (bytes.drop f.count) ++ tail := by
          simpa [Frame.begins, Config.frameKept] using begins
        obtain beyond | other | others := unfit f frame
        · omega
        · exact other same
        · exact others bits
      simp [State.accepts, selected, frame, strange]

theorem exec_unfit {f : List Byte} (encoded : encodeFrame c = some f) (unfit : s.Unfit f []) : exec c s = .next s := by
  obtain ⟨body, spelled, rfl⟩ := encodeFrame_eq_some.mp encoded
  rw [exec_of_commandBytes spelled, State.command_refuses s body _ unfit.accepts]

theorem execCommandFrameBegin_undue {code : Byte} (undue : code = 0#8 ∨ s.resetPin = true ∨ s.link.ssel = true ∧
    ∀ f : Frame, s.link.frame = some f → f.count ≠ 0 ∨ ¬f.bits <+: byteBits code) : exec (.commandFrameBegin code) s = .next s := by
  refine if_neg fun accepted => ?_
  unfold State.acceptsCode at accepted
  obtain rfl | reset | ⟨selected, undue⟩ := undue
  · simp at accepted
  · simp [reset] at accepted
  · cases frame : s.link.frame with
    | none => simp [selected, frame] at accepted
    | some f =>
      obtain ⟨-, ⟨first, -⟩, bits⟩ : _ ∧ (f.count = 0 ∧ f.bytes = []) ∧ f.bits <+: byteBits code := by
        simpa [selected, frame] using accepted
      exact (undue f frame).elim (· first) (· bits)

theorem execReadAnswerFrame_undue {dummies : List Byte} {tail : List Bool} (undue : 8 ≤ tail.length ∨ s.Unfit (0x00#8 :: dummies) tail) :
    exec (.readAnswerFrame dummies tail) s = .next s := by
  refine if_neg fun accepted => ?_
  obtain ⟨short, accepted⟩ : tail.length < 8 ∧ s.accepts (0x00#8 :: dummies) tail = true := by simpa using accepted
  obtain long | unfit := undue
  · omega
  · rw [unfit.accepts] at accepted
    cases accepted

theorem execUnknownCodeFrame_undue {bytes : List Byte} {tail : List Bool} (undue : isCommandFrame bytes = false ∨ 8 ≤ tail.length ∨
    s.Unfit bytes tail ∨ decodeFrame bytes tail ≠ none) : exec (.unknownCodeFrame bytes tail) s = .next s := by
  show execUnknownCodeFrame bytes tail s = _
  unfold execUnknownCodeFrame
  obtain answer | long | unfit | known := undue
  · exact if_neg (by simp [answer])
  · exact if_neg (by simp [long])
  · exact if_neg (by simp [unfit.accepts])
  · cases verdict : judgeFrame bytes tail with
    | accepted => split <;> rfl
    | frame => exact absurd (by simp [decodeFrame, verdict]) known
    | unknown => exact absurd (by simp [decodeFrame, verdict]) known

theorem execIgnoredFrameEnd_undue (undue : s.link.ssel = false ∨ ∃ f : Frame, s.link.frame = some f ∧ f.count ≠ 0) :
    exec .ignoredFrameEnd s = .next s := by
  refine if_neg ?_
  unfold Link.endIgnored
  obtain deselected | ⟨f, frame, begun⟩ := undue
  · simp [deselected]
  · cases selected : s.link.ssel with
    | false => simp
    | true => simp [frame, begun]

/-- Settles O2: every command is carried out, none touches the queue, and each stands where its conditions fail. -/
theorem everyCommandAnswersANextState : Obligations.EveryCommandAnswersANextState := by
  refine ⟨exec_next, fun c s => ?_⟩
  intro owned held unfit
  cases c with
  | requestPresentation p r => exact execRequestPresentation_behind
  | admissionEvent p =>
    intro unmet
    refine execAdmissionEvent_undue (Option.eq_none_iff_forall_ne_some.mpr fun r due => ?_)
    obtain ⟨ready, fits, first⟩ := State.admissible_facts due
    obtain ⟨head, released, pclr, live, ⟨k, free⟩, limit, serial, room⟩ := (s.ready17_iff p r).mp ready
    rw [s.held_eq] at limit
    obtain reset | asserted | isolated | full | most | ⟨k, x, ⟨live', owner, own⟩, wraps⟩ | ⟨write, full⟩ | narrow | ⟨some', behind⟩ :=
      unmet r head
    · simp [released] at reset
    · simp [pclr] at asserted
    · exact live isolated
    · exact full k free
    · exact absurd limit (Nat.not_lt.mpr most)
    · exact serial k x live' owner own wraps
    · exact absurd (room write) (Nat.not_lt.mpr full)
    · exact absurd fits (Nat.not_le.mpr narrow)
    · exact first.elim some' behind
  | cutoffEvent p =>
    intro unmet
    refine execCutoffEvent_undue (Option.eq_none_iff_forall_ne_some.mpr fun r due => ?_)
    obtain ⟨head, isolated, released, pclr, offer, room⟩ := State.cutoffDue_eq_some.mp due
    obtain live | reset | asserted | offered | ⟨write, full⟩ := unmet r head
    · exact live isolated
    · simp [released] at reset
    · simp [pclr] at asserted
    · exact offered offer
    · exact absurd (room write) (Nat.not_lt.mpr full)
  | writeDataBeat p d => exact execWriteDataBeat_undue
  | fillingStall k => exact execFillingStall_undue
  | enterDelivering p =>
    intro unmet
    refine execEnterDelivering_undue (Option.eq_none_iff_forall_ne_some.mpr fun ⟨k, x, r⟩ due => ?_)
    obtain ⟨noDelivery, live, master, own, ready, oldest⟩ := State.deliverable_oldest due
    obtain ⟨j, y, ⟨live', owner, mine⟩, delivering⟩ | older := unmet
    · exact noDelivery j y live' owner mine delivering
    · obtain ⟨j, y, ⟨live', owner, mine⟩, before⟩ := older k x ⟨live, master, own⟩ ready
      exact absurd (oldest j y live' owner mine) (Nat.not_le.mpr before)
  | responseItemTake p => exact execResponseItemTake_nothing
  | deliveringStall k => exact execDeliveringStall_undue
  | pclrAssertion p => exact fun asserted => if_pos asserted
  | pclrRelease p => exact fun released => if_neg (by simp [released])
  | grant =>
    intro unmet
    refine execGrant_undue (unmet.imp id fun noQueued => State.winner_eq_none.mpr (State.eligible_none_iff.mpr fun m => ?_))
    exact State.candidate_eq_none.mpr fun k x ⟨live, _, _, queued⟩ => noQueued k x live queued
  | issueTake => exact execIssueTake_nothing
  | writeDataTake =>
    intro unmet
    refine if_neg fun offers => ?_
    obtain ⟨busy, k, x, issued, write, more⟩ := State.offersWriteData_iff.mp offers
    obtain ⟨live, phase⟩ := s.issued_some k x issued
    obtain other | none' := unmet
    · exact other busy
    · obtain read | taken := none' k x live phase
      · rw [read] at write
        cases write
      · omega
  | readBeat word status last =>
    intro unmet
    refine congrArg Host.Outcome.next (State.readBeatArrives_undue fun busy k x issued => ?_)
    obtain ⟨live, phase⟩ := s.issued_some k x issued
    exact unmet.elim (absurd busy) (· k x live phase)
  | writeAcknowledge ok =>
    intro unmet
    refine congrArg Host.Outcome.next (State.writeAckArrives_undue fun busy k x issued => ?_)
    obtain ⟨live, phase⟩ := s.issued_some k x issued
    exact unmet.elim (absurd busy) (· k x live phase)
  | memoryTimeout =>
    exact fun unmet => execMemoryTimeout_undue fun busy expired =>
      (unmet.resolve_left (not_not_intro busy)).elim (absurd expired) s.issued_none.mpr
  | abortAcknowledge => exact execAbortAcknowledge_undue
  | abortTimeout => exact execAbortTimeout_undue
  | tick => exact fun reset => if_pos reset
  | tclkEdge => exact fun reset => if_pos reset
  | quietRecovery m =>
    intro unmet
    refine execQuietRecovery_undue fun released => Bool.eq_false_iff.mpr fun due => ?_
    obtain ⟨⟨isolated, quiet, reached⟩, head⟩ :
        ((s.conf m).standing = .isolated ∧ (s.conf m).recovery = .quiet ∧ 255 ≤ (s.conf m).count) ∧
          ∀ r, (s.port m).head = some r → (s.port m).pclr = false ∧ (s.port m).offer = none ∧
            (r.kind = .write → (s.port m).writeList.length < 4) := by
      obtain ⟨due, noHead⟩ | meets := State.quietDue_iff.mp due
      · exact ⟨due, fun r head => by rw [noHead] at head; cases head⟩
      · obtain ⟨due, r, head, free⟩ := (State.meetsCutoff_iff released).mp meets
        refine ⟨due, fun r' head' => ?_⟩
        obtain rfl := Option.some.inj (head.symm.trans head')
        exact free
    obtain reset | live | other | below | ⟨r, waiting, taken⟩ := unmet
    · simp [released] at reset
    · exact live isolated
    · exact other quiet
    · omega
    · obtain ⟨pclr, offer, room⟩ := head r waiting
      obtain asserted | offered | ⟨write, full⟩ := taken
      · simp [pclr] at asserted
      · exact offered offer
      · exact absurd (room write) (Nat.not_lt.mpr full)
  | witnessRecovery m item => exact execWitnessRecovery_undue
  | commandFrameBegin code => exact execCommandFrameBegin_undue
  | readAnswerFrame dummies tail => exact execReadAnswerFrame_undue
  | unknownCodeFrame bytes tail => exact execUnknownCodeFrame_undue
  | readStatus | setMode | readMaster | setRecovery | clearScore | isolate | restore | writeWindow | readWindow | setFill | setTiming
  | setDeferral | readSettings | holdMemory | releaseMemory | restoreMemory | peekFault | popFault | setRecordMask | readAlerts
  | clearAlerts | setAlertEnables | readSlot | resetPart => exact fun ⟨_, encoded, unfit⟩ => exec_unfit encoded unfit
  | resetAssertion => exact fun reset => if_pos reset
  | resetRelease => exact fun released => if_neg (by simp [released])
  | sselAssertion => exact fun selected => if_pos selected
  | ignoredFrameEnd => exact execIgnoredFrameEnd_undue
  | sclkRisingEdge | powerOnReset => exact False.elim

end

end Sys2Proof.Machine
end
